-- ==== Sys2Proof/Word.lean ====
section
/-! DEFINITION. The block's word types: bytes, tick counts, the payload-length input, and the protocol variant. -/

namespace Sys2Proof

/-- A byte is 8 bits (R40); also the width of `SEQ` and `CHAN` (R5: `SEQ_W`, `CHAN_W`). -/
abbrev Byte := BitVec 8

/-- `TIMER_W` = 32 bits: the width of `TMO`, `ELAPSED` and `ERR_ELAPSED` (R5). -/
abbrev Ticks := BitVec 32

/-- The encoder's 9-bit length input `plen` and length output `flen` (R80). -/
abbrev Len9 := BitVec 9

/-- The two wire layouts (R1, R15): `a` is `VARIANT = 0`, no channel byte; `b` is `VARIANT = 1`, with it. -/
inductive Variant where
  | a
  | b
  deriving DecidableEq, Repr

end Sys2Proof
end

