-- ==== Sys2Proof/Config.lean ====
section
/-! DEFINITION. The constants of rule R5, each defined once by name (D24; log 22), and the free values. -/

namespace Sys2Proof.Config

/-- `MAGIC`: "fixed for the lifetime of the protocol" (R5). -/
def magic : BitVec 16 := 0xBEEF#16

/-- `PAYLOAD_MAX`: the largest payload the encoder accepts (R5). -/
def payloadMax : Nat := 255

/-- `CHUNK_MAX`: bytes requested from the byte source per round, and the size of `CHUNK_BUF` (R5, R19). -/
def chunkMax : Nat := 32

/-- `HDR_LEN_A`: header length of variant A (R5). -/
def hdrLenA : Nat := 4

/-- `HDR_LEN_B`: header length of variant B (R5). -/
def hdrLenB : Nat := 5

/-- `HDR_LEN` of a variant (R5, R86). -/
def hdrLen : Variant → Nat
  | .a => hdrLenA
  | .b => hdrLenB

/-- `ACK_LEN`: an acknowledgement is one byte (R5, R63). -/
def ackLen : Nat := 1

/-- `PAYLOAD_IN_MAX`: the largest length the encoder's 9-bit length input can express (R5, D12). -/
def payloadInMax : Nat := 511

/-- `TIMEOUT_DEFAULT` as a duration in seconds (R5; C8: never a tick count). -/
def timeoutDefaultSeconds : Nat := 5

/-- `TICK_PERIOD`, an OPEN parameter of the spec (R5, D6): seconds per tick, as numerator and denominator.
No body: no rule gives it a value (log 12). -/
opaque tickPeriod : Nat × Nat

/-- The free bytes: what `CHUNK_BUF` holds after the operation RESET, "unspecified" by R36 and R150 (log 10).
No body: nothing constrains them. -/
opaque freeByte : Nat → Byte

end Sys2Proof.Config
end

