-- ==== Sys2Proof/Syntax.lean ====
section
/-! DEFINITION. The operations of the block: one constructor per row of spec/opcode_table.json (R76). An operation
carries the operands of the event or the input port that invokes it; what it does is in Machine/. -/

namespace Sys2Proof

/-- One constructor per row of the opcode table, in the table's order. -/
inductive Instr where
  /-- FRAME_A (R61): a frame of variant A, `sequence_id` and payload; `payload_length` is the payload's length (R64). -/
  | frameA (seq : Byte) (payload : List Byte)
  /-- FRAME_B (R62): a frame of variant B. -/
  | frameB (seq chan : Byte) (payload : List Byte)
  /-- ACK (R63): one acknowledgement byte, all 8 bits the sequence id. -/
  | ack (s : Byte)
  /-- RESET (R150). -/
  | reset
  /-- START (R106): the three configuration inputs as sampled with the event. -/
  | start (v : Variant) (c : Byte) (t : Ticks)
  /-- READ.CHUNK (R108): the source's non-empty response. -/
  | readChunk (c : List Byte)
  /-- READ.EOF (R109): the source's empty response. -/
  | readEof
  /-- SEND (R110). -/
  | send
  /-- SEND.TOOLARGE (R113). -/
  | sendTooLarge
  /-- POLL.MATCH (R114): the byte received, equal to `SEQ`. -/
  | pollMatch (b : Byte)
  /-- POLL.MISMATCH (R115): the byte received, different from `SEQ`. -/
  | pollMismatch (b : Byte)
  /-- POLL.EMPTY (R116). -/
  | pollEmpty
  /-- POLL.TIMEOUT (R117). -/
  | pollTimeout
  /-- HOLD.DONE (R118). -/
  | holdDone
  /-- HOLD.FAILED (R118). -/
  | holdFailed
  /-- ENC.A (R82): the encoder's inputs with `variant = 0`; `chan` is an input and ignored (R80). -/
  | encA (seq chan : Byte) (payload : List Byte)
  /-- ENC.B (R83): the encoder's inputs with `variant = 1`. -/
  | encB (seq chan : Byte) (payload : List Byte)
  /-- GUARD (R81): the length input; `v` is the variant bit, either. -/
  | guard (v : Variant) (plen : Len9)
  /-- SEQ.CLR (R91). -/
  | seqClr
  /-- SEQ.INC (R92). -/
  | seqInc
  /-- ACK.CMP (R95): the byte returned by the poll. -/
  | ackCmp (b : Byte)
  /-- TMR.CLR (R97). -/
  | tmrClr
  /-- TMR.TICK (R98). -/
  | tmrTick
  deriving DecidableEq, Repr

end Sys2Proof
end

