-- ==== Sys2Proof/WellFormed.lean ====
section
/-! DEFINITION. Which operations exist as the spec writes them: the length limits of chunks, frames and encoder payloads.
Every other operand may hold any value of its width. -/

namespace Sys2Proof

/-- The frame formats hold payloads of 0 to 255 bytes: a longer frame "does not exist" (R68). -/
def framePayloadOk (p : List Byte) : Bool := decide (p.length ≤ Config.payloadMax)

/-- READ.CHUNK takes a chunk of 1 to 32 bytes (R108). -/
def chunkOk (c : List Byte) : Bool := decide (1 ≤ c.length) && decide (c.length ≤ Config.chunkMax)

/-- The encoder's length input has 9 bits (R80). -/
def encPayloadOk (p : List Byte) : Bool := decide (p.length ≤ Config.payloadInMax)

/-- Well-formed operations, constructor by constructor. -/
def Instr.wf : Instr → Bool
  | .frameA _ p => framePayloadOk p
  | .frameB _ _ p => framePayloadOk p
  | .ack _ => true
  | .reset => true
  | .start _ _ _ => true
  | .readChunk c => chunkOk c
  | .readEof => true
  | .send => true
  | .sendTooLarge => true
  | .pollMatch _ => true
  | .pollMismatch _ => true
  | .pollEmpty => true
  | .pollTimeout => true
  | .holdDone => true
  | .holdFailed => true
  | .encA _ _ p => encPayloadOk p
  | .encB _ _ p => encPayloadOk p
  | .guard _ _ => true
  | .seqClr => true
  | .seqInc => true
  | .ackCmp _ => true
  | .tmrClr => true
  | .tmrTick => true

end Sys2Proof
end

