-- ==== Sys2Proof/Decode.lean ====
section
/-! DEFINITION. From bytes to operations and back. The wire formats are the spec's own, byte for byte (R61, R62, R63); the
reference decode is R87's. The spec gives the operations no bytes ("it has no instruction encodings", 30_encoding.md): their
images are one operation byte, whose low bits are the pattern of the opcode table's row, and operand bytes (log 4). -/

namespace Sys2Proof

/-- Where an image is read: which format a byte belongs to is not on the wire (R67: "The variant is a mode of the session,
not a field on the wire"), so the reader is told. -/
inductive Port where
  /-- The transmit stream under variant A: frames of R61. -/
  | txA
  /-- The transmit stream under variant B: frames of R62. -/
  | txB
  /-- The receive stream: acknowledgements of R63. -/
  | rx
  /-- The operation images of this model (log 4). -/
  | op
  deriving DecidableEq, Repr

/-- Why bytes are no operation. `short`, `badMagic` and `badLength` are R87's names. -/
inductive DecodeError where
  /-- The bytes end before the operation does (R87: Short). -/
  | short
  /-- A frame that does not begin `EF BE` (R87: BadMagic; R68). -/
  | badMagic
  /-- A frame whose length byte is not its payload's length (R87: BadLength). -/
  | badLength
  /-- An FSM pattern with a reserved `STATE` code, `0b110` or `0b111` (R13, R71). -/
  | reservedState
  /-- A datapath strobe at 0: the row's encoding is the strobe at 1 (R73). -/
  | strobeLow
  /-- A chunk length above 32 (R120). -/
  | chunkTooLong
  /-- A variant operand that is neither 0 nor 1 (R15: 1 bit). -/
  | badVariant
  /-- A length operand of more than 9 bits (R80). -/
  | lengthTooWide
  /-- No row of the table has this operation byte. -/
  | unknownOperation
  deriving DecidableEq, Repr

/-! ### Bits and bytes (R8) -/

/-- `lo8(v) = v[7:0]` (R8). -/
def lo8 (v : BitVec 16) : Byte := v.extractLsb' 0 8

/-- `hi8(v) = v[15:8]` (R8). -/
def hi8 (v : BitVec 16) : Byte := v.extractLsb' 8 8

/-- The first `k` bytes of a number, least significant first. -/
def leBytes : Nat → Nat → List Byte
  | 0, _ => []
  | k + 1, w => BitVec.ofNat 8 w :: leBytes k (w / 256)

/-- A byte sequence read as one little-endian number, byte 0 least significant (R65). -/
def leNat : List Byte → Nat
  | [] => 0
  | b :: s => b.toNat + 256 * leNat s

/-- The four bytes of a tick count in an operation image, least significant first (log 4). -/
def ticksBytes (t : Ticks) : List Byte :=
  [t.extractLsb' 0 8, t.extractLsb' 8 8, t.extractLsb' 16 8, t.extractLsb' 24 8]

/-- The tick count of four bytes. -/
def ticksOf (b0 b1 b2 b3 : Byte) : Ticks := b3 ++ b2 ++ b1 ++ b0

/-- `s[i]`, byte `i` of a sequence (R8); 0 where there is none, which no use of it reads. -/
def byteAt (s : List Byte) (i : Nat) : Byte := s.getD i 0

/-- The first `n` bytes and the rest, or `short`. -/
def takeBytes : Nat → List Byte → Except DecodeError (List Byte × List Byte)
  | 0, s => .ok ([], s)
  | _ + 1, [] => .error .short
  | n + 1, b :: s =>
    match takeBytes n s with
    | .ok (x, rest) => .ok (b :: x, rest)
    | .error e => .error e

/-- The 1-bit code of a variant (R15). -/
def Variant.bit : Variant → Byte
  | .a => 0
  | .b => 1

/-- The variant of a byte that holds 0 or 1. -/
def variantOf (b : Byte) : Option Variant :=
  if b = 0 then some .a else if b = 1 then some .b else none

/-! ### Wire formats -/

/-- A frame of variant A at the head of a byte sequence: its length is told by byte 3 (R61, R66). -/
def readFrameA : List Byte → Except DecodeError (Instr × List Byte)
  | m0 :: m1 :: seq :: n :: s =>
    if m0 = lo8 Config.magic ∧ m1 = hi8 Config.magic then
      (takeBytes n.toNat s).map fun x => (.frameA seq x.1, x.2)
    else .error .badMagic
  | _ => .error .short

/-- A frame of variant B at the head of a byte sequence: its length is told by byte 4 (R62, R66). -/
def readFrameB : List Byte → Except DecodeError (Instr × List Byte)
  | m0 :: m1 :: seq :: chan :: n :: s =>
    if m0 = lo8 Config.magic ∧ m1 = hi8 Config.magic then
      (takeBytes n.toNat s).map fun x => (.frameB seq chan x.1, x.2)
    else .error .badMagic
  | _ => .error .short

/-- An acknowledgement: every byte is one (R63). -/
def readAck : List Byte → Except DecodeError (Instr × List Byte)
  | b :: s => .ok (.ack b, s)
  | [] => .error .short

/-- The reference decode of R87, "a test device, not hardware": the whole sequence is one frame. -/
def referenceDecode (v : Variant) (s : List Byte) : Except DecodeError (Byte × Option Byte × List Byte) :=
  if s.length < Config.hdrLen v then .error .short
  else if byteAt s 0 ≠ 0xEF#8 ∨ byteAt s 1 ≠ 0xBE#8 then .error .badMagic
  else if s.length ≠ Config.hdrLen v + (byteAt s (Config.hdrLen v - 1)).toNat then .error .badLength
  else .ok (byteAt s 2, (match v with | .a => none | .b => some (byteAt s 3)), s.drop (Config.hdrLen v))

/-- R65: the header of variant A as one 32-bit integer, `n << 24 | seq << 16 | 0xBEEF`. -/
def headerIntA (seq n : Byte) : BitVec 32 := n ++ seq ++ Config.magic

/-- R65: the header of variant B as one 40-bit integer, `n << 32 | chan << 24 | seq << 16 | 0xBEEF`. -/
def headerIntB (seq chan n : Byte) : BitVec 40 := n ++ chan ++ seq ++ Config.magic

/-! ### Operation images (log 4) -/

/-- What an operation byte selects; the operands follow it. -/
inductive OpKind where
  | start | read | send | sendTooLarge | pollMatch | pollMismatch | pollEmpty | pollTimeout | holdDone | holdFailed
  | reset | enc (v : Variant) | guard (v : Variant) | seqClr | seqInc | ackCmp | tmrClr | tmrTick
  deriving DecidableEq, Repr

/-- One row of the operation-byte table: the byte matches where `byte &&& mask = pattern`. -/
structure OpRow where
  mask : Byte
  pattern : Byte
  kind : OpKind
  deriving DecidableEq, Repr

/-- The FSM rows: bits 2..0 are the row's `STATE` code (R13, R70), bits 7..3 number the rows that share a code. READ.CHUNK
and READ.EOF share one byte: the chunk's length tells them apart, as in R70. RESET is FSM_ANY: any code (R76). -/
def fsmRows : List OpRow :=
  [⟨0xFF, 0x00, .start⟩, ⟨0xFF, 0x01, .read⟩,
   ⟨0xFF, 0x02, .send⟩, ⟨0xFF, 0x0A, .sendTooLarge⟩,
   ⟨0xFF, 0x03, .pollMatch⟩, ⟨0xFF, 0x0B, .pollMismatch⟩, ⟨0xFF, 0x13, .pollEmpty⟩, ⟨0xFF, 0x1B, .pollTimeout⟩,
   ⟨0xFF, 0x04, .holdDone⟩, ⟨0xFF, 0x05, .holdFailed⟩, ⟨0xF8, 0x20, .reset⟩]

/-- The ENC rows (bit 0 is `VARIANT`, R72) and the CTRL rows (bit 0 is the strobe, at 1, R73). -/
def datapathRows : List OpRow :=
  [⟨0xFF, 0x40, .enc .a⟩, ⟨0xFF, 0x41, .enc .b⟩, ⟨0xFF, 0x48, .guard .a⟩, ⟨0xFF, 0x49, .guard .b⟩,
   ⟨0xFF, 0x81, .seqClr⟩, ⟨0xFF, 0x89, .seqInc⟩, ⟨0xFF, 0x91, .ackCmp⟩, ⟨0xFF, 0x99, .tmrClr⟩, ⟨0xFF, 0xA1, .tmrTick⟩]

/-- All operation bytes. -/
def opTable : List OpRow := fsmRows ++ datapathRows

/-- The row of an operation byte. -/
def lookupOp (b : Byte) : Option OpKind :=
  (opTable.find? fun r => b &&& r.mask == r.pattern).map OpRow.kind

/-- The name under which an operation byte that no row has is rejected. -/
def opByteError (b : Byte) : DecodeError :=
  if b &&& 0xE6 = 0x06 then .reservedState
  else if b = 0x80 ∨ b = 0x88 ∨ b = 0x90 ∨ b = 0x98 ∨ b = 0xA0 then .strobeLow
  else .unknownOperation

/-- The encoder's payload: two bytes of length, least significant first, of which 9 bits count, then the payload. -/
def readPayload : List Byte → Except DecodeError (List Byte × List Byte)
  | lo :: hi :: s => if hi ≤ 1 then takeBytes (lo.toNat + 256 * hi.toNat) s else .error .lengthTooWide
  | _ => .error .short

/-- START's operands: variant, channel, four bytes of budget. -/
def readStart : List Byte → Except DecodeError (Instr × List Byte)
  | v :: c :: t0 :: t1 :: t2 :: t3 :: s =>
    match variantOf v with
    | some v => .ok (.start v c (ticksOf t0 t1 t2 t3), s)
    | none => .error .badVariant
  | _ => .error .short

/-- READ's operand: a length byte and that many bytes; length 0 is READ.EOF (R70, R108, R109). -/
def readChunkOperand : List Byte → Except DecodeError (Instr × List Byte)
  | n :: s =>
    if n = 0 then .ok (.readEof, s)
    else if n.toNat ≤ Config.chunkMax then (takeBytes n.toNat s).map fun x => (.readChunk x.1, x.2)
    else .error .chunkTooLong
  | [] => .error .short

/-- An operand of one byte. -/
def readByteOperand (f : Byte → Instr) : List Byte → Except DecodeError (Instr × List Byte)
  | b :: s => .ok (f b, s)
  | [] => .error .short

/-- ENC's operands: `seq`, `chan`, and the payload with its length. -/
def readEncOperands (v : Variant) : List Byte → Except DecodeError (Instr × List Byte)
  | seq :: chan :: s =>
    (readPayload s).map fun x => ((match v with | .a => .encA seq chan x.1 | .b => .encB seq chan x.1), x.2)
  | _ => .error .short

/-- GUARD's operand: the 9-bit length, in two bytes. -/
def readGuardOperand (v : Variant) : List Byte → Except DecodeError (Instr × List Byte)
  | lo :: hi :: s => if hi ≤ 1 then .ok (.guard v ((hi ++ lo : BitVec 16).setWidth 9), s) else .error .lengthTooWide
  | _ => .error .short

/-- The operands of an operation, read from the bytes behind the operation byte. -/
def readOperands (k : OpKind) (s : List Byte) : Except DecodeError (Instr × List Byte) :=
  match k with
  | .start => readStart s
  | .read => readChunkOperand s
  | .send => .ok (.send, s)
  | .sendTooLarge => .ok (.sendTooLarge, s)
  | .pollMatch => readByteOperand .pollMatch s
  | .pollMismatch => readByteOperand .pollMismatch s
  | .pollEmpty => .ok (.pollEmpty, s)
  | .pollTimeout => .ok (.pollTimeout, s)
  | .holdDone => .ok (.holdDone, s)
  | .holdFailed => .ok (.holdFailed, s)
  | .reset => .ok (.reset, s)
  | .enc v => readEncOperands v s
  | .guard v => readGuardOperand v s
  | .seqClr => .ok (.seqClr, s)
  | .seqInc => .ok (.seqInc, s)
  | .ackCmp => readByteOperand .ackCmp s
  | .tmrClr => .ok (.tmrClr, s)
  | .tmrTick => .ok (.tmrTick, s)

/-- An operation image at the head of a byte sequence. -/
def readOp : List Byte → Except DecodeError (Instr × List Byte)
  | [] => .error .short
  | b :: s =>
    match lookupOp b with
    | some k => readOperands k s
    | none => .error (opByteError b)

/-- The decoder, total on any bytes: the operation at the head of the bytes and the rest, or a named rejection. -/
def decode (p : Port) (s : List Byte) : Except DecodeError (Instr × List Byte) :=
  match p with
  | .txA => readFrameA s
  | .txB => readFrameB s
  | .rx => readAck s
  | .op => readOp s

/-! ### The encoder of images -/

/-- The port at which an operation's image is read. -/
def Instr.port : Instr → Port
  | .frameA _ _ => .txA
  | .frameB _ _ _ => .txB
  | .ack _ => .rx
  | .reset => .op
  | .start _ _ _ => .op
  | .readChunk _ => .op
  | .readEof => .op
  | .send => .op
  | .sendTooLarge => .op
  | .pollMatch _ => .op
  | .pollMismatch _ => .op
  | .pollEmpty => .op
  | .pollTimeout => .op
  | .holdDone => .op
  | .holdFailed => .op
  | .encA _ _ _ => .op
  | .encB _ _ _ => .op
  | .guard _ _ => .op
  | .seqClr => .op
  | .seqInc => .op
  | .ackCmp _ => .op
  | .tmrClr => .op
  | .tmrTick => .op

/-- A payload with its length in two bytes. -/
def payloadImage (p : List Byte) : List Byte :=
  BitVec.ofNat 8 p.length :: BitVec.ofNat 8 (p.length / 256) :: p

/-- The image of an operation: the wire bytes of R61, R62, R63, or an operation byte with its operands. -/
def encode : Instr → List Byte
  | .frameA seq p => lo8 Config.magic :: hi8 Config.magic :: seq :: BitVec.ofNat 8 p.length :: p
  | .frameB seq chan p => lo8 Config.magic :: hi8 Config.magic :: seq :: chan :: BitVec.ofNat 8 p.length :: p
  | .ack s => [s]
  | .reset => [0x20]
  | .start v c t => 0x00 :: v.bit :: c :: ticksBytes t
  | .readChunk c => 0x01 :: BitVec.ofNat 8 c.length :: c
  | .readEof => [0x01, 0x00]
  | .send => [0x02]
  | .sendTooLarge => [0x0A]
  | .pollMatch b => [0x03, b]
  | .pollMismatch b => [0x0B, b]
  | .pollEmpty => [0x13]
  | .pollTimeout => [0x1B]
  | .holdDone => [0x04]
  | .holdFailed => [0x05]
  | .encA seq chan p => 0x40 :: seq :: chan :: payloadImage p
  | .encB seq chan p => 0x41 :: seq :: chan :: payloadImage p
  | .guard v n => [0x48 ||| v.bit, n.extractLsb' 0 8, (n.extractLsb' 8 1).setWidth 8]
  | .seqClr => [0x81]
  | .seqInc => [0x89]
  | .ackCmp b => [0x91, b]
  | .tmrClr => [0x99]
  | .tmrTick => [0xA1]

/-! ### Words of the opcode table -/

/-- The longest operation image: ENC with 511 payload bytes. -/
def longestImage : Nat := 516

/-- The port a table word of `nbits` bits is read at: 32 bits are WIRE_A, 40 bits are WIRE_B, a word of one byte is an
operation byte (log 5: the table's 1-bit, 3-bit and 8-bit rows overlap, and a word does not say its format). -/
def tablePort (nbits : Nat) : Port :=
  if nbits ≤ 8 then .op else if nbits ≤ 32 then .txA else .txB

/-- The bytes of a table word in the order they stand on a stream, and zeros behind them. -/
def tableBytes (nbits w : Nat) : List Byte :=
  leBytes ((nbits + 7) / 8) w ++ List.replicate longestImage 0

/-- The operation the decoder reads from a table word; bit 0 is the least significant bit of the first byte. -/
def decodeTableWord (nbits w : Nat) : Option Instr :=
  match decode (tablePort nbits) (tableBytes nbits w) with
  | .ok x => some x.1
  | .error _ => none

end Sys2Proof
end

