-- ==== Sys2Proof/Machine/Timebase.lean ====
section
/-! DEFINITION. Ticks and seconds (R102): how many ticks a budget of a given duration is. No rule of the block depends on it
but the reset value of `TMO`. -/

namespace Sys2Proof.Machine

/-- `ceil(T / P)` ticks for a budget of `T = tn / td` seconds and a tick period of `P = pn / pd` seconds (R102). -/
def budgetTicks (tn td pn pd : Nat) : Nat := (tn * pd + (td * pn - 1)) / (td * pn)

/-- `TIMEOUT_DEFAULT_TICKS = ceil(5 s / TICK_PERIOD)` (R36, U3, C8), with `TICK_PERIOD` the spec's OPEN parameter (log 12). -/
def timeoutDefaultTicks : Ticks :=
  BitVec.ofNat 32 (budgetTicks Config.timeoutDefaultSeconds 1 Config.tickPeriod.1 Config.tickPeriod.2)

end Sys2Proof.Machine
end

