-- ==== Sys2Proof/Machine/State.lean ====
section
/-! DEFINITION. The state of the machine: the block's registers (R10), what the block does to its collaborators (R34), the
inputs the environment has scheduled (R105, R46), and the state after reset (R36). Plain data. -/

namespace Sys2Proof.Machine

/-- `STATE` (R12, R13): the six named states; the reserved codes `0b110` and `0b111` are not representable (log 20). -/
inductive Phase where
  | idle
  | reading
  | sending
  | awaitingAck
  | done
  | failed
  deriving DecidableEq, Repr

/-- `ERR_KIND` (R20): the codes 0 to 3 the block writes; codes 4 to 7 are not representable (R71; log 20). -/
inductive ErrKind where
  | none
  | payloadTooLarge
  | rxTimeout
  | sequenceMismatch
  deriving DecidableEq, Repr

/-- The events the block steps on (R105). -/
inductive Event where
  /-- Forces the reset state from any state (R25). -/
  | reset
  /-- The start of a session, with `cfg_variant`, `cfg_channel`, `cfg_timeout` as sampled (R24, R25). -/
  | start (v : Variant) (c : Byte) (t : Ticks)
  /-- The byte source's response (R26). -/
  | chunk (c : List Byte)
  /-- The block's own step in Sending (R105). -/
  | send
  /-- A poll that returned a byte (R28, R47). -/
  | ack (b : Byte)
  /-- A poll that returned no byte (R29, R47). -/
  | tick
  deriving DecidableEq, Repr

/-- What the environment presents. -/
inductive Input where
  /-- One event. -/
  | event (e : Event)
  /-- `reset` presented together with another event: reset wins (R139, R151; log 16). -/
  | resetWith (e : Event)
  /-- A byte appended to the tail of RX, at any time and in any state (R46). -/
  | arrive (b : Byte)
  /-- The model's own: an image presented past the dispatcher, so that one operation runs alone (log 6). -/
  | bench (p : Port) (image : List Byte)
  deriving DecidableEq, Repr

/-- The model's own reading of the outputs of a datapath operation that was invoked alone (log 9): the encoder's
`too_large`, `frame`, `flen` (R80), the matcher's `ack_match` (R95), the timer's `expired` (R99). None is a register of the
block (R23: "None is stored"), and no operation reads it. -/
structure Outs where
  tooLarge : Bool
  frame : List Byte
  flen : Len9
  ackMatch : Bool
  expired : Bool
  deriving DecidableEq, Repr

/-- The machine. -/
structure State where
  /-- `STATE` (R12). -/
  phase : Phase
  /-- `SEQ`, 8 bits (R14). -/
  seq : Byte
  /-- `VARIANT`, 1 bit (R15). -/
  variant : Variant
  /-- `CHAN`, 8 bits (R16). -/
  chan : Byte
  /-- `TMO`, 32 bits (R17). -/
  tmo : Ticks
  /-- `ELAPSED`, 32 bits (R18). -/
  elapsed : Ticks
  /-- `CHUNK_BUF`, 32 bytes (R19). -/
  chunkBuf : List Byte
  /-- `CHUNK_LEN`, 6 bits (R11, R19). -/
  chunkLen : BitVec 6
  /-- `ERR_KIND`, 3 bits (R20). -/
  errKind : ErrKind
  /-- `ERR_EXPECTED`, 8 bits (R21). -/
  errExpected : Byte
  /-- `ERR_ACTUAL`, 8 bits (R21). -/
  errActual : Byte
  /-- `ERR_ELAPSED`, 32 bits (R22). -/
  errElapsed : Ticks
  /-- `POS`, the byte source's cursor: bytes consumed (R34, R42). -/
  srcPos : Nat
  /-- `RX`, the transport's receive queue, head first (R34, R46). -/
  rx : List Byte
  /-- How many bytes the block has taken from RX (R7 (2)); the model's own count (log 25). -/
  rxTaken : Nat
  /-- `TX`, every byte handed to the transport, first byte first (R34, R44). -/
  tx : List Byte
  /-- What the environment presents next, first one first (R105; log 1). -/
  inputs : List Input
  /-- The model's own reading of combinational outputs (log 9). -/
  outs : Outs
  /-- The model's own count of free values used (log 10). -/
  freeCount : Nat
  deriving DecidableEq, Repr

/-- The machine never faults where the spec gives an effect; the block's errors are transitions to Failed (R140). -/
inductive Fault where
  /-- SEND with `CHUNK_LEN` above 32: `CHUNK_BUF` has no such bytes (R19). No run of the block reaches it (R37). Safe: the
  spec gives no effect (log 17). -/
  | chunkBufOverrun
  deriving DecidableEq, Repr

/-- What has no step. The first is the host's; the others are events R120 says cannot be presented, and bytes or lengths
that the formats exclude. All are safe: the model has fewer runs, only where the environment breaks its contract (R120). -/
inductive Refusal where
  /-- An operation without a meaning: raised by no arm. -/
  | notModelled (mnemonic : String)
  /-- `chunk` outside Reading (R120). Raised by the selection. -/
  | chunkNotRequested
  /-- `chunk` of more than 32 bytes (R120, R159). Raised by the selection and by READ.CHUNK. -/
  | chunkTooLong
  /-- READ.CHUNK with no byte: the empty response is READ.EOF (R108, R109). Raised by READ.CHUNK; the selection never does. -/
  | chunkEmpty
  /-- `ack` outside AwaitingAck (R120). Raised by the selection. -/
  | ackNotPolled
  /-- `ack(b)` while another byte is the head of RX: a poll returns the head (R47; log 15). Raised by the selection. -/
  | ackNotHead
  /-- `send` outside Sending (R120). Raised by the selection. -/
  | sendNotReady
  /-- A frame with a payload of more than 255 bytes "does not exist" (R68). Raised by FRAME_A and FRAME_B. -/
  | frameTooLong
  /-- A bench image that the decoder rejects (log 4, log 6). Raised by the fetch. -/
  | undecodable (e : DecodeError)
  deriving DecidableEq, Repr

/-- The machine right after reset: R36's values; `CHUNK_BUF`, which R36 leaves unspecified, is 32 zero bytes (log 11); the
streams as before a session (log 3); nothing scheduled (log 1). DESIGN CHOICE (log 9): `outs`, which no register holds and to
which the spec gives no value here, shows `tooLarge`, `ackMatch` and `expired` false, `frame` empty and `flen` 0. -/
def State.reset : State where
  phase := .idle
  seq := 0
  variant := .a
  chan := 0
  tmo := timeoutDefaultTicks
  elapsed := 0
  chunkBuf := List.replicate Config.chunkMax 0
  chunkLen := 0
  errKind := .none
  errExpected := 0
  errActual := 0
  errElapsed := 0
  srcPos := 0
  rx := []
  rxTaken := 0
  tx := []
  inputs := []
  outs := { tooLarge := false, frame := [], flen := 0, ackMatch := false, expired := false }
  freeCount := 0

end Sys2Proof.Machine
end

