-- ==== Sys2Proof/Machine/Flags.lean ====
section
/-! DEFINITION. The four condition signals of R23. None is stored: each is a function of the state and of the current input. -/

namespace Sys2Proof.Machine

/-- `eof`: the source's response has length 0 (R23, R109). -/
def eof (c : List Byte) : Bool := decide (c.length = 0)

/-- `too_large`: the payload is longer than 255 bytes (R23, R81). -/
def tooLarge (plen : Nat) : Bool := decide (Config.payloadMax < plen)

/-- `ack_match`: all 8 bits of the byte received equal `SEQ` (R23, R95). -/
def ackMatch (b seq : Byte) : Bool := decide (b = seq)

/-- `ELAPSED + 1` in `TIMER_W` bits (R98; log 18 on the unreachable wrap). -/
def elapsedNext (elapsed : Ticks) : Ticks := elapsed + 1

/-- `expired`: the value after the increment has reached the budget, an unsigned comparison (R23, R99). -/
def expired (elapsed tmo : Ticks) : Bool := decide (tmo ≤ elapsedNext elapsed)

end Sys2Proof.Machine
end

