-- ==== Sys2Proof/Machine/Operands.lean ====
section
/-! DEFINITION. Operands: the codes of the named registers, the assembly of header fields (R64), the payload in `CHUNK_BUF`. -/

namespace Sys2Proof.Machine

/-- The 3-bit code of `STATE` (R13). -/
def Phase.code : Phase → BitVec 3
  | .idle => 0b000
  | .reading => 0b001
  | .sending => 0b010
  | .awaitingAck => 0b011
  | .done => 0b100
  | .failed => 0b101

/-- The 3-bit code of `ERR_KIND` (R20). -/
def ErrKind.code : ErrKind → BitVec 3
  | .none => 0
  | .payloadTooLarge => 1
  | .rxTimeout => 2
  | .sequenceMismatch => 3

/-- The 1-bit code of `VARIANT` (R15). -/
def variantCode : Variant → BitVec 1
  | .a => 0
  | .b => 1

/-- `SEQ_new = (SEQ + 1) mod 256` (R92): the carry out of bit 7 is discarded. -/
def seqNext (seq : Byte) : Byte := seq + 1

/-- `zext_9(CHUNK_LEN)`, the encoder's length input inside the block (R80). -/
def chunkPlen (n : BitVec 6) : Len9 := n.setWidth 9

/-- `len(payload)` as the 8-bit length field: exact, since the guard has passed (R64, R94). -/
def lengthField (n : Nat) : Byte := BitVec.ofNat 8 n

/-- The header of a frame, fields in wire order, the magic low byte first (R61, R62, R64, R41). -/
def headerBytes (v : Variant) (seq chan n : Byte) : List Byte :=
  match v with
  | .a => [lo8 Config.magic, hi8 Config.magic, seq, n]
  | .b => [lo8 Config.magic, hi8 Config.magic, seq, chan, n]

/-- `CHUNK_BUF[0 .. CHUNK_LEN)` (R19); none where the buffer has no such bytes, which no run reaches (log 17). -/
def State.chunkPayload (s : State) : Option (List Byte) :=
  if s.chunkLen.toNat ≤ s.chunkBuf.length then some (s.chunkBuf.take s.chunkLen.toNat) else none

/-- `CHUNK_BUF[0 .. len(c)) <- c`: bytes at `len(c)` and above keep what they held (R19, R108). -/
def overwriteHead (c buf : List Byte) : List Byte := c ++ buf.drop c.length

end Sys2Proof.Machine
end

