-- ==== Sys2Proof/Machine/Encoder.lean ====
section
/-! DEFINITION. The frame encoder (R80 to R86): a pure function of its inputs. -/

namespace Sys2Proof.Machine

/-- The encoder (R82, R83) with its guard (R81): the frame, or none where it raises `PayloadTooLarge`
(log 21: the payload may have any length). -/
def encodeFrame (v : Variant) (seq chan : Byte) (payload : List Byte) : Option (List Byte) :=
  if tooLarge payload.length then none
  else some (headerBytes v seq chan (lengthField payload.length) ++ payload)

/-- The encoder's `frame` output: empty where the payload is refused (R81). -/
def frameOut (v : Variant) (seq chan : Byte) (payload : List Byte) : List Byte :=
  (encodeFrame v seq chan payload).getD []

/-- The encoder's three outputs (R80), on the model's reading of outputs. -/
def encoderOuts (v : Variant) (seq chan : Byte) (payload : List Byte) (o : Outs) : Outs :=
  { o with
    tooLarge := tooLarge payload.length
    frame := frameOut v seq chan payload
    flen := BitVec.ofNat 9 (frameOut v seq chan payload).length }

/-- GUARD alone (R81): `too_large`; when it is 1, `frame = []` and `flen = 0`. -/
def guardOuts (plen : Len9) (o : Outs) : Outs :=
  if tooLarge plen.toNat then { o with tooLarge := true, frame := [], flen := 0 } else { o with tooLarge := false }

/-- The byte-serial view of a frame (R85). -/
def frameByte (v : Variant) (seq chan : Byte) (payload : List Byte) (i : Nat) : Byte :=
  if i = 0 then 0xEF
  else if i = 1 then 0xBE
  else if i = 2 then seq
  else match v with
    | .a => if i = 3 then lengthField payload.length else byteAt payload (i - 4)
    | .b => if i = 3 then chan else if i = 4 then lengthField payload.length else byteAt payload (i - 5)

/-- `last(i) = (i = flen - 1)` (R85). -/
def frameLast (v : Variant) (seq chan : Byte) (payload : List Byte) (i : Nat) : Bool :=
  decide (i + 1 = (frameOut v seq chan payload).length)

end Sys2Proof.Machine
end

