-- ==== Sys2Proof/Machine/Ops.lean ====
section
/-! DEFINITION. The named operations over registers and streams (R8), shared by the meanings: register writes, the three
stream accesses (R43, R45, R47), taking an error (R140), and reset, the only way out of a terminal state (R142, R150). -/

namespace Sys2Proof.Machine

/-! ### Registers -/

/-- `STATE <- p` (R8). -/
def State.goto (s : State) (p : Phase) : State := { s with phase := p }

/-- `SEQ <- 0x00` (R91). -/
def State.clearSeq (s : State) : State := { s with seq := 0 }

/-- `SEQ <- (SEQ + 1) mod 256` (R92). -/
def State.incSeq (s : State) : State := { s with seq := seqNext s.seq }

/-- `ELAPSED <- 0` (R97). -/
def State.clearTimer (s : State) : State := { s with elapsed := 0 }

/-- `ELAPSED <- ELAPSED + 1` (R98). -/
def State.tickTimer (s : State) : State := { s with elapsed := elapsedNext s.elapsed }

/-- `VARIANT <- v ; CHAN <- c ; TMO <- t` (R106). -/
def State.sampleConfig (s : State) (v : Variant) (c : Byte) (t : Ticks) : State :=
  { s with variant := v, chan := c, tmo := t }

/-- `CHUNK_BUF[0 .. len(c)) <- c ; CHUNK_LEN <- len(c)` (R108). -/
def State.loadChunk (s : State) (c : List Byte) : State :=
  { s with chunkBuf := overwriteHead c s.chunkBuf, chunkLen := BitVec.ofNat 6 c.length }

/-- What a datapath operation invoked alone puts on the model's reading of outputs (log 9). -/
def State.showOuts (s : State) (o : Outs) : State := { s with outs := o }

/-! ### Streams -/

/-- The `SrcRead(32)` that returned `c`: the cursor advances by `len(c)` (R43). -/
def State.srcTaken (s : State) (c : List Byte) : State := { s with srcPos := s.srcPos + c.length }

/-- `TxWrite(x)`: `TX <- TX ++ x` (R45). -/
def State.txWrite (s : State) (x : List Byte) : State := { s with tx := s.tx ++ x }

/-- `RxPoll()` on a queue: the head byte and the rest, or none and the queue unchanged (R47). -/
def rxPoll : List Byte → Option Byte × List Byte
  | [] => (none, [])
  | b :: q => (some b, q)

/-- The `RxPoll()` that returned `some b`: one byte leaves RX (R47). Where the byte arrived and was taken between two steps,
RX holds none and stays empty (log 15). -/
def State.rxTake (s : State) : State := { s with rx := (rxPoll s.rx).2, rxTaken := s.rxTaken + 1 }

/-- A byte appended to the tail of RX by the environment (R46). -/
def State.rxArrive (s : State) (b : Byte) : State := { s with rx := s.rx ++ [b] }

/-! ### Errors: entry to Failed (R140) -/

/-- The three errors the block raises, with the values they carry (R130). -/
inductive BlockError where
  | payloadTooLarge
  | rxTimeout (elapsed : Ticks)
  | sequenceMismatch (expected actual : Byte)
  deriving DecidableEq, Repr

/-- `raise E(info)`: the error record and `STATE <- Failed`, "and nothing else" (R140). -/
def State.raise (s : State) (e : BlockError) : State :=
  match e with
  | .payloadTooLarge => { s with errKind := .payloadTooLarge, phase := .failed }
  | .rxTimeout t => { s with errKind := .rxTimeout, errElapsed := t, phase := .failed }
  | .sequenceMismatch x y =>
    { s with errKind := .sequenceMismatch, errExpected := x, errActual := y, phase := .failed }

/-! ### Reset: the only exit from Done and Failed (R142, R151) -/

/-- The free bytes of an unspecified `CHUNK_BUF`, fresh from position `k` on (R150; log 10). -/
def freeChunkBuf (k : Nat) : List Byte := (List.range Config.chunkMax).map fun i => Config.freeByte (k + i)

/-- Every register takes its reset value of R36, `CHUNK_BUF` becomes unspecified (R150), and the collaborators are not
touched (R152); nor are the scheduled inputs and the model's reading of outputs (log 24). -/
def State.resetBlock (s : State) : State :=
  { s with
    phase := .idle
    seq := 0
    variant := .a
    chan := 0
    tmo := timeoutDefaultTicks
    elapsed := 0
    chunkBuf := freeChunkBuf s.freeCount
    chunkLen := 0
    errKind := .none
    errExpected := 0
    errActual := 0
    errElapsed := 0
    freeCount := s.freeCount + Config.chunkMax }

end Sys2Proof.Machine
end

