-- ==== Sys2Proof/Machine/Datapath.lean ====
section
/-! DEFINITION. The encoder's operations (R81 to R83) and the datapath strobes (R91 to R99), each invoked alone: its register
write, and its outputs on the model's reading of outputs (log 9). -/

namespace Sys2Proof.Machine

/-- ENC.A (R82). -/
def execEncA (seq chan : Byte) (payload : List Byte) (s : State) : Host.Outcome State Fault Refusal :=
  .next (s.showOuts (encoderOuts .a seq chan payload s.outs))

/-- ENC.B (R83). -/
def execEncB (seq chan : Byte) (payload : List Byte) (s : State) : Host.Outcome State Fault Refusal :=
  .next (s.showOuts (encoderOuts .b seq chan payload s.outs))

/-- GUARD (R81): the same in both variants. -/
def execGuard (plen : Len9) (s : State) : Host.Outcome State Fault Refusal :=
  .next (s.showOuts (guardOuts plen s.outs))

/-- SEQ.CLR (R91). -/
def execSeqClr (s : State) : Host.Outcome State Fault Refusal :=
  .next s.clearSeq

/-- SEQ.INC (R92). -/
def execSeqInc (s : State) : Host.Outcome State Fault Refusal :=
  .next s.incSeq

/-- ACK.CMP (R95): no register is written; `ack_match` is an output. -/
def execAckCmp (b : Byte) (s : State) : Host.Outcome State Fault Refusal :=
  .next (s.showOuts { s.outs with ackMatch := ackMatch b s.seq })

/-- TMR.CLR (R97). -/
def execTmrClr (s : State) : Host.Outcome State Fault Refusal :=
  .next s.clearTimer

/-- TMR.TICK (R98), with `expired` evaluated on the value after the increment (R99). -/
def execTmrTick (s : State) : Host.Outcome State Fault Refusal :=
  .next (s.tickTimer.showOuts { s.outs with expired := expired s.elapsed s.tmo })

end Sys2Proof.Machine
end

