-- ==== Sys2Proof/Machine/Transfer.lean ====
section
/-! DEFINITION. The operations of the transfer state machine (R106 to R118) and RESET (R150). An operation does what its rule
says; `STATE`, the event and the condition that select it are the selection's (R70; log 7). -/

namespace Sys2Proof.Machine

/-- RESET (R150). -/
def execReset (s : State) : Host.Outcome State Fault Refusal :=
  .next s.resetBlock

/-- START (R106). -/
def execStart (v : Variant) (c : Byte) (t : Ticks) (s : State) : Host.Outcome State Fault Refusal :=
  .next ((s.sampleConfig v c t).clearSeq.goto .reading)

/-- READ.CHUNK (R108), with the `SrcRead(32)` that returned the chunk; a length outside 1 to 32 is no READ.CHUNK (log 19). -/
def execReadChunk (c : List Byte) (s : State) : Host.Outcome State Fault Refusal :=
  if eof c then .refused .chunkEmpty
  else if Config.chunkMax < c.length then .refused .chunkTooLong
  else .next (((s.srcTaken c).loadChunk c).goto .sending)

/-- READ.EOF (R109): the read returned nothing, the cursor stays, no frame is sent. -/
def execReadEof (s : State) : Host.Outcome State Fault Refusal :=
  .next (s.goto .done)

/-- SEND (R110, R111): increment, encode, write the whole frame, clear the timer. -/
def execSend (s : State) : Host.Outcome State Fault Refusal :=
  match s.chunkPayload with
  | some p => .next ((s.txWrite (frameOut s.variant (seqNext s.seq) s.chan p)).incSeq.clearTimer.goto .awaitingAck)
  | none => .fault .chunkBufOverrun

/-- SEND.TOOLARGE (R113, C1): the increment has already happened, nothing is written. -/
def execSendTooLarge (s : State) : Host.Outcome State Fault Refusal :=
  .next (s.incSeq.raise .payloadTooLarge)

/-- POLL.MATCH (R114): the byte leaves RX; no register but `STATE` changes. -/
def execPollMatch (s : State) : Host.Outcome State Fault Refusal :=
  .next (s.rxTake.goto .reading)

/-- POLL.MISMATCH (R115). -/
def execPollMismatch (b : Byte) (s : State) : Host.Outcome State Fault Refusal :=
  .next (s.rxTake.raise (.sequenceMismatch s.seq b))

/-- POLL.EMPTY (R116): `STATE` stays AwaitingAck. -/
def execPollEmpty (s : State) : Host.Outcome State Fault Refusal :=
  .next (s.tickTimer.goto .awaitingAck)

/-- POLL.TIMEOUT (R117). -/
def execPollTimeout (s : State) : Host.Outcome State Fault Refusal :=
  .next (s.tickTimer.raise (.rxTimeout (elapsedNext s.elapsed)))

/-- HOLD.DONE (R118): "every register keeps its value, no stream is accessed". -/
def execHoldDone (s : State) : Host.Outcome State Fault Refusal :=
  .next s

/-- HOLD.FAILED (R118): "every register keeps its value, no stream is accessed". -/
def execHoldFailed (s : State) : Host.Outcome State Fault Refusal :=
  .next s

end Sys2Proof.Machine
end

