-- ==== Sys2Proof/Machine/Wire.lean ====
section
/-! DEFINITION. The wire formats: a unit of a format is put on its stream (log 8). Frames travel on TX, acknowledgements on
RX (R60). -/

namespace Sys2Proof.Machine

/-- A frame handed to the transport whole (R45); a payload of more than 255 bytes makes no frame (R68). -/
def putFrame (v : Variant) (seq chan : Byte) (payload : List Byte) (s : State) : Host.Outcome State Fault Refusal :=
  match encodeFrame v seq chan payload with
  | some f => .next (s.txWrite f)
  | none => .refused .frameTooLong

/-- FRAME_A (R61). -/
def execFrameA (seq : Byte) (payload : List Byte) (s : State) : Host.Outcome State Fault Refusal :=
  putFrame .a seq 0 payload s

/-- FRAME_B (R62). -/
def execFrameB (seq chan : Byte) (payload : List Byte) (s : State) : Host.Outcome State Fault Refusal :=
  putFrame .b seq chan payload s

/-- ACK (R63): the byte arrives at the tail of RX, at any time, in any state (R46). -/
def execAck (b : Byte) (s : State) : Host.Outcome State Fault Refusal :=
  .next (s.rxArrive b)

end Sys2Proof.Machine
end

