-- ==== Sys2Proof/Machine/Dispatch.lean ====
section
/-! DEFINITION. The meaning of every operation: one arm per constructor, one direct call. -/

namespace Sys2Proof.Machine

def exec (i : Instr) (s : State) : Host.Outcome State Fault Refusal :=
  match i with
  | .frameA seq payload => Sys2Proof.Machine.execFrameA seq payload s
  | .frameB seq chan payload => Sys2Proof.Machine.execFrameB seq chan payload s
  | .ack b => Sys2Proof.Machine.execAck b s
  | .reset => Sys2Proof.Machine.execReset s
  | .start v c t => Sys2Proof.Machine.execStart v c t s
  | .readChunk c => Sys2Proof.Machine.execReadChunk c s
  | .readEof => Sys2Proof.Machine.execReadEof s
  | .send => Sys2Proof.Machine.execSend s
  | .sendTooLarge => Sys2Proof.Machine.execSendTooLarge s
  | .pollMatch _ => Sys2Proof.Machine.execPollMatch s
  | .pollMismatch b => Sys2Proof.Machine.execPollMismatch b s
  | .pollEmpty => Sys2Proof.Machine.execPollEmpty s
  | .pollTimeout => Sys2Proof.Machine.execPollTimeout s
  | .holdDone => Sys2Proof.Machine.execHoldDone s
  | .holdFailed => Sys2Proof.Machine.execHoldFailed s
  | .encA seq chan payload => Sys2Proof.Machine.execEncA seq chan payload s
  | .encB seq chan payload => Sys2Proof.Machine.execEncB seq chan payload s
  | .guard _ plen => Sys2Proof.Machine.execGuard plen s
  | .seqClr => Sys2Proof.Machine.execSeqClr s
  | .seqInc => Sys2Proof.Machine.execSeqInc s
  | .ackCmp b => Sys2Proof.Machine.execAckCmp b s
  | .tmrClr => Sys2Proof.Machine.execTmrClr s
  | .tmrTick => Sys2Proof.Machine.execTmrTick s

end Sys2Proof.Machine
end

