-- ==== Sys2Proof/Machine/Select.lean ====
section
/-! DEFINITION. Operation selection: the block's opcode map (R70), with the ignored events (R119), the events that cannot be
presented (R120), and the whole transition table they make (R121). -/

namespace Sys2Proof.Machine

/-- What a step does with what is presented. -/
inductive Selection where
  /-- One operation runs. -/
  | op (i : Instr)
  /-- Accepted, with no effect on any register or stream (R119), or nothing presented. -/
  | ignored
  /-- The model has no step for it (R120). -/
  | refuse (r : Refusal)
  deriving DecidableEq, Repr

/-- A poll that returned the byte `b`: POLL.MATCH or POLL.MISMATCH (R70, R95). -/
def pollByte (b : Byte) (s : State) : Selection :=
  if ackMatch b s.seq then .op (.pollMatch b) else .op (.pollMismatch b)

/-- A poll that returned none: POLL.EMPTY or POLL.TIMEOUT (R70, R99). -/
def pollNone (s : State) : Selection :=
  if expired s.elapsed s.tmo then .op .pollTimeout else .op .pollEmpty

/-- `start` (R106; R119 outside Idle, as HOLD in the terminal states: R118). -/
def selectStart (v : Variant) (c : Byte) (t : Ticks) (s : State) : Selection :=
  match s.phase with
  | .idle => .op (.start v c t)
  | .reading => .ignored
  | .sending => .ignored
  | .awaitingAck => .ignored
  | .done => .op .holdDone
  | .failed => .op .holdFailed

/-- `chunk(c)` (R108, R109); outside Reading it cannot be presented, in Done and Failed neither (R120, R121; log 13). -/
def selectChunk (c : List Byte) (s : State) : Selection :=
  match s.phase with
  | .idle => .refuse .chunkNotRequested
  | .reading =>
    if Config.chunkMax < c.length then .refuse .chunkTooLong
    else if eof c then .op .readEof else .op (.readChunk c)
  | .sending => .refuse .chunkNotRequested
  | .awaitingAck => .refuse .chunkNotRequested
  | .done => .refuse .chunkNotRequested
  | .failed => .refuse .chunkNotRequested

/-- `send` (R110, R113): the encoder's guard on `zext_9(CHUNK_LEN)` tells the two forms apart. Outside Sending it cannot be
presented (R120, R121; log 13). -/
def selectSend (s : State) : Selection :=
  match s.phase with
  | .idle => .refuse .sendNotReady
  | .reading => .refuse .sendNotReady
  | .sending => if tooLarge (chunkPlen s.chunkLen).toNat then .op .sendTooLarge else .op .send
  | .awaitingAck => .refuse .sendNotReady
  | .done => .refuse .sendNotReady
  | .failed => .refuse .sendNotReady

/-- `ack(b)` (R114, R115; R120, R121 outside AwaitingAck; log 13). A poll returns the head of RX (R47); with RX empty, `b` arrived and was taken between two
steps (R49; log 15). -/
def selectAck (b : Byte) (s : State) : Selection :=
  match s.phase with
  | .idle => .refuse .ackNotPolled
  | .reading => .refuse .ackNotPolled
  | .sending => .refuse .ackNotPolled
  | .awaitingAck =>
    match s.rx with
    | [] => pollByte b s
    | x :: _ => if x = b then pollByte b s else .refuse .ackNotHead
  | .done => .refuse .ackNotPolled
  | .failed => .refuse .ackNotPolled

/-- `tick` (R116, R117; R119 outside AwaitingAck). Where a byte waits in RX the poll finds it: the byte wins (R138, R47;
log 14). -/
def selectTick (s : State) : Selection :=
  match s.phase with
  | .idle => .ignored
  | .reading => .ignored
  | .sending => .ignored
  | .awaitingAck =>
    match (rxPoll s.rx).1 with
    | some b => pollByte b s
    | none => pollNone s
  | .done => .op .holdDone
  | .failed => .op .holdFailed

/-- The operation an event selects (R70). -/
def select (e : Event) (s : State) : Selection :=
  match e with
  | .reset => .op .reset
  | .start v c t => selectStart v c t s
  | .chunk c => selectChunk c s
  | .send => selectSend s
  | .ack b => selectAck b s
  | .tick => selectTick s

end Sys2Proof.Machine
end

