-- ==== Sys2Proof/Machine/Fetch.lean ====
section
/-! DEFINITION. What a step finds: the next scheduled input (log 1), or, with none, the block's own `send` (R105; log 2). -/

namespace Sys2Proof.Machine

/-- The inputs left. -/
def State.withInputs (s : State) (l : List Input) : State := { s with inputs := l }

/-- With nothing presented, the block takes its own step `send` whenever `STATE = Sending` (R105) and otherwise waits. -/
def selectNothing (s : State) : Selection :=
  match s.phase with
  | .idle => .ignored
  | .reading => .ignored
  | .sending => selectSend s
  | .awaitingAck => .ignored
  | .done => .ignored
  | .failed => .ignored

/-- What one input selects. -/
def selectInput (x : Input) (s : State) : Selection :=
  match x with
  | .event e => select e s
  | .resetWith _ => .op .reset
  | .arrive b => .op (.ack b)
  | .bench p image =>
    match decode p image with
    | .ok y => .op y.1
    | .error e => .refuse (.undecodable e)

/-- What the step does, and the state it does it in: the input presented is used up. -/
def fetch (s : State) : Selection × State :=
  match s.inputs with
  | [] => (selectNothing s, s)
  | x :: l => (selectInput x s, s.withInputs l)

/-- A table word, presented so that the next step runs its operation (log 5, log 6). -/
def State.present (s : State) (nbits w : Nat) : State :=
  s.withInputs (.bench (tablePort nbits) (tableBytes nbits w) :: s.inputs)

end Sys2Proof.Machine
end

