-- ==== Sys2Proof/Machine/Step.lean ====
section
/-! DEFINITION. One step of the machine: one input, one operation (R105), and the placing of a table word for the next step. -/

namespace Sys2Proof.Machine

/-- One step: the selected operation runs, an ignored event changes nothing (R119), an event that cannot be presented has no
step (R120). -/
def step (s : State) : Host.Outcome State Fault Refusal :=
  match fetch s with
  | (.op i, t) => exec i t
  | (.ignored, t) => .next t
  | (.refuse r, _) => .refused r

/-- The state whose next step runs the operation of a table word (log 5, log 6). -/
def State.withFetchWord (s : State) (nbits w : Nat) : State := s.present nbits w

end Sys2Proof.Machine
end

