-- ==== Sys2Proof/Machine/Outputs.lean ====
section
/-! DEFINITION. The block's outputs (R26 to R31): functions of the registers, readable at any time with no side effect. -/

namespace Sys2Proof.Machine

/-- `src_req`: a request for up to 32 bytes (R26). -/
def State.srcReq (s : State) : Bool := decide (s.phase = .reading)

/-- `tx_valid` (R27). -/
def State.txValid (s : State) : Bool := decide (s.phase = .sending)

/-- `tx_data`: the frame the SEND step hands over (R27, R110). DESIGN CHOICE (log 26): where there is none (`tx_valid` is 0, or
`CHUNK_LEN` is beyond the buffer, which no run reaches) it shows the empty sequence; the spec says nothing there. -/
def State.txData (s : State) : List Byte :=
  match s.phase, s.chunkPayload with
  | .sending, some p => frameOut s.variant (seqNext s.seq) s.chan p
  | _, _ => []

/-- `rx_ready` (R28). -/
def State.rxReady (s : State) : Bool := decide (s.phase = .awaitingAck)

/-- `idle` (R31). -/
def State.isIdle (s : State) : Bool := decide (s.phase = .idle)

/-- `busy`: Reading, Sending or AwaitingAck (R31). -/
def State.busy (s : State) : Bool :=
  decide (s.phase = .reading) || decide (s.phase = .sending) || decide (s.phase = .awaitingAck)

/-- `done` (R31). -/
def State.isDone (s : State) : Bool := decide (s.phase = .done)

/-- `failed` (R31). -/
def State.isFailed (s : State) : Bool := decide (s.phase = .failed)

/-- The status outputs with their widths (R30). -/
structure Status where
  state : BitVec 3
  seq : BitVec 8
  variant : BitVec 1
  chan : BitVec 8
  tmo : BitVec 32
  elapsed : BitVec 32
  chunkLen : BitVec 6
  errKind : BitVec 3
  errExpected : BitVec 8
  errActual : BitVec 8
  errElapsed : BitVec 32
  deriving DecidableEq, Repr

/-- "continuously driven from the registers of the same name" (R30). -/
def State.status (s : State) : Status where
  state := s.phase.code
  seq := s.seq
  variant := variantCode s.variant
  chan := s.chan
  tmo := s.tmo
  elapsed := s.elapsed
  chunkLen := s.chunkLen
  errKind := s.errKind.code
  errExpected := s.errExpected
  errActual := s.errActual
  errElapsed := s.errElapsed

end Sys2Proof.Machine
end

