-- ==== Sys2Proof/Machine/Reference.lean ====
section
/-! DEFINITION. The reference environment of R59, "a test harness, not hardware", and the trace notation of R74 and R75 as
inputs: no rule of the block depends on it, and claims about the block quantify over every environment (log 23). -/

namespace Sys2Proof.Machine

/-- `SrcRead(n)` on a file `F` with the cursor at `pos`: the bytes and the new cursor (R43). -/
def srcRead (file : List Byte) (pos n : Nat) : List Byte × Nat :=
  ((file.drop pos).take n, pos + ((file.drop pos).take n).length)

/-- The non-empty chunks of a file from `pos` on, one per read of 32 bytes (R43); `fuel` bounds the number of reads. -/
def chunksFrom (file : List Byte) : Nat → Nat → List (List Byte)
  | 0, _ => []
  | fuel + 1, pos =>
    if eof (srcRead file pos Config.chunkMax).1 then []
    else (srcRead file pos Config.chunkMax).1 :: chunksFrom file fuel (srcRead file pos Config.chunkMax).2

/-- The non-empty chunks of a file: `ceil(L / 32)` of them (R43). -/
def fileChunks (file : List Byte) : List (List Byte) := chunksFrom file file.length 0

/-- `start A t=<ticks>` (R74). -/
def startA (t : Ticks) : Input := .event (.start .a 0 t)

/-- `start B ch=<byte> t=<ticks>` (R74). -/
def startB (ch : Byte) (t : Ticks) : Input := .event (.start .b ch t)

/-- `ticks k` (R75). -/
def ticks (k : Nat) : List Input := List.replicate k (.event .tick)

/-- `round <chunk> ack <b>` (R75): the byte arrives in RX and the poll takes it. -/
def round (c : List Byte) (b : Byte) : List Input :=
  [.event (.chunk c), .event .send, .arrive b, .event (.ack b)]

/-- Rounds under the ideal receiver (R59 (b)), the last frame sent so far having carried `seq`; then the empty read. -/
def idealRounds : Byte → List (List Byte) → List Input
  | _, [] => [.event (.chunk [])]
  | seq, c :: cs => round c (seqNext seq) ++ idealRounds (seqNext seq) cs

/-- A whole session over a file: `start`, `file F`, `ideal` (R74, R75). -/
def idealSession (v : Variant) (ch : Byte) (t : Ticks) (file : List Byte) : List Input :=
  .event (.start v ch t) :: idealRounds 0 (fileChunks file)

/-- `max(TMO, 1)`: the empty poll of a round on which it fails (R99, R100). -/
def pollBudget (tmo : Ticks) : Nat := max tmo.toNat 1

/-- One entry of the scripted receiver's list (R59 (c)): `(k, some b)` is `ack b` after `k` empty polls, `(_, none)` is
silence. This is what the round sees: a byte the budget does not wait for is never polled, and the round ends on the empty poll
that spends the budget, as in silence (R99, R156). -/
def scriptedReply (tmo : Ticks) : Nat × Option Byte → List Input
  | (k, some b) => if k < pollBudget tmo then ticks k ++ [.arrive b, .event (.ack b)] else ticks (pollBudget tmo)
  | (_, none) => ticks (pollBudget tmo)

/-- Whether the session goes on after a round of the frame `seq` that saw this entry: the byte came within the budget and is
the frame's id. After a timeout or a mismatch the block is in Failed, and no further chunk is asked for (R115, R117, R120). -/
def scriptGoesOn (tmo : Ticks) (seq : Byte) : Nat × Option Byte → Bool
  | (k, some b) => decide (k < pollBudget tmo) && ackMatch b seq
  | (_, none) => false

/-- Rounds under the reference source and the scripted receiver (R59 (a), (c)), the last frame sent so far having carried
`seq`: up to the round that fails, if one does; else the empty read behind the last chunk. Where the script ends before the
chunks do, the schedule ends there too, with the block waiting in Reading (log 23). -/
def scriptedRounds (tmo : Ticks) : Byte → List (List Byte) → List (Nat × Option Byte) → List Input
  | _, [], _ => [.event (.chunk [])]
  | _, _ :: _, [] => []
  | seq, c :: cs, x :: xs =>
    .event (.chunk c) :: .event .send :: scriptedReply tmo x ++
      if scriptGoesOn tmo (seqNext seq) x then scriptedRounds tmo (seqNext seq) cs xs else []

/-- A whole session over a file under the scripted receiver. -/
def scriptedSession (v : Variant) (ch : Byte) (t : Ticks) (file : List Byte) (script : List (Nat × Option Byte)) :
    List Input :=
  .event (.start v ch t) :: scriptedRounds t 0 (fileChunks file) script

/-- The bytes a sequence of chunks puts on TX, the last frame before it having carried `seq`: one whole frame a chunk, ids
counting up modulo 256 (R93, R110, R123). -/
def wireImage (v : Variant) (ch : Byte) : Byte → List (List Byte) → List Byte
  | _, [] => []
  | seq, c :: cs => frameOut v (seqNext seq) ch c ++ wireImage v ch (seqNext seq) cs

end Sys2Proof.Machine
end

