-- ==== Sys2Proof/Safety.lean ====
section
/-! DEFINITION. The terms claims use: the inputs hardware can see, the invariants of R37, the events that can be presented
(R120, R121), the operations a run performed (R123), and states that agree but for something dead. -/

namespace Sys2Proof.Machine

/-! ### Inputs -/

/-- An input the block's environment can present: everything but the model's own bench access (log 6). -/
def Input.isEnv : Input → Bool
  | .event _ => true
  | .resetWith _ => true
  | .arrive _ => true
  | .bench _ _ => false

/-- Only inputs of the environment are scheduled. Every claim about runs of the hardware has this premise (log 6). -/
def State.envOnly (s : State) : Bool := s.inputs.all Input.isEnv

/-- An input that presents `reset`. -/
def Input.isReset : Input → Bool
  | .event .reset => true
  | .resetWith _ => true
  | _ => false

/-- No reset is scheduled: what runs is part of one session. -/
def State.noReset (s : State) : Bool := s.inputs.all fun x => !x.isReset

/-! ### Invariants (R37) -/

/-- `max(TMO, 1)`: how many empty polls a round allows (R99, R100). -/
def budget (tmo : Ticks) : Ticks := if tmo = 0 then 1 else tmo

/-- What holds in every state a run of the block reaches (R37, R20, R21, R22, R91). -/
structure BlockInv (s : State) : Prop where
  /-- `CHUNK_BUF` is 32 bytes (R19). -/
  bufLength : s.chunkBuf.length = Config.chunkMax
  /-- `CHUNK_LEN <= 32` (R37). -/
  lenBound : s.chunkLen.toNat ≤ Config.chunkMax
  /-- `1 <= CHUNK_LEN` in Sending (R37). -/
  sendingLen : s.phase = .sending → 1 ≤ s.chunkLen.toNat
  /-- `STATE = Failed` if and only if `ERR_KIND != 0` (R37). -/
  failedIff : s.phase = .failed ↔ s.errKind ≠ .none
  /-- `ERR_KIND = 3` implies `ERR_EXPECTED = SEQ` and `ERR_ACTUAL != ERR_EXPECTED` (R37). -/
  mismatch : s.errKind = .sequenceMismatch → s.errExpected = s.seq ∧ s.errActual ≠ s.errExpected
  /-- `ERR_KIND = 2` implies `ERR_ELAPSED = ELAPSED = max(TMO, 1)` (R37). -/
  timeout : s.errKind = .rxTimeout → s.errElapsed = s.elapsed ∧ s.elapsed = budget s.tmo
  /-- `STATE = AwaitingAck` implies `ELAPSED < max(TMO, 1)` (R37). -/
  awaiting : s.phase = .awaitingAck → s.elapsed < budget s.tmo
  /-- `ERR_EXPECTED` and `ERR_ACTUAL` keep 0 for every other outcome (R21). -/
  noMismatch : s.errKind ≠ .sequenceMismatch → s.errExpected = 0 ∧ s.errActual = 0
  /-- `ERR_ELAPSED` keeps 0 for every other outcome (R22). -/
  noTimeout : s.errKind ≠ .rxTimeout → s.errElapsed = 0
  /-- The state machine never reaches `PayloadTooLarge` (R5, R113). -/
  notTooLarge : s.errKind ≠ .payloadTooLarge
  /-- Idle is reached only from reset, so `SEQ` is 0 there (R91). -/
  idleSeq : s.phase = .idle → s.seq = 0

/-! ### Events that can be presented (R120, R121) -/

/-- Whether an event can be presented: the cells of R121's table that are not blank (R120, R26), with a poll returning the
head of RX where there is one (R47; log 15). -/
def presentable (e : Event) (s : State) : Bool :=
  match e with
  | .reset => true
  | .start _ _ _ => true
  | .tick => true
  | .chunk c => s.srcReq && decide (c.length ≤ Config.chunkMax)
  | .send => s.txValid
  | .ack b => s.rxReady && (decide (s.rx.head? = none) || decide (s.rx.head? = some b))

/-! ### Who writes what (R11, R12, R19 to R22) -/

/-- The registers of the block (R10). -/
inductive Reg where
  | state | seq | variant | chan | tmo | elapsed | chunkBuf | chunkLen | errKind | errExpected | errActual | errElapsed
  deriving DecidableEq, Repr

/-- The two states hold the same value in a register. -/
def sameReg : Reg → State → State → Prop
  | .state, s, t => t.phase = s.phase
  | .seq, s, t => t.seq = s.seq
  | .variant, s, t => t.variant = s.variant
  | .chan, s, t => t.chan = s.chan
  | .tmo, s, t => t.tmo = s.tmo
  | .elapsed, s, t => t.elapsed = s.elapsed
  | .chunkBuf, s, t => t.chunkBuf = s.chunkBuf
  | .chunkLen, s, t => t.chunkLen = s.chunkLen
  | .errKind, s, t => t.errKind = s.errKind
  | .errExpected, s, t => t.errExpected = s.errExpected
  | .errActual, s, t => t.errActual = s.errActual
  | .errElapsed, s, t => t.errElapsed = s.errElapsed

/-- The registers an operation may write: the last column of R11's table, R12, R19, R20 to R22; for a datapath operation
the register its strobe writes (R91, R92, R97, R98). -/
def mayWrite : Instr → List Reg
  | .frameA _ _ => []
  | .frameB _ _ _ => []
  | .ack _ => []
  | .reset => [.state, .seq, .variant, .chan, .tmo, .elapsed, .chunkBuf, .chunkLen, .errKind, .errExpected, .errActual, .errElapsed]
  | .start _ _ _ => [.state, .seq, .variant, .chan, .tmo]
  | .readChunk _ => [.state, .chunkBuf, .chunkLen]
  | .readEof => [.state]
  | .send => [.state, .seq, .elapsed]
  | .sendTooLarge => [.state, .seq, .errKind]
  | .pollMatch _ => [.state]
  | .pollMismatch _ => [.state, .errKind, .errExpected, .errActual]
  | .pollEmpty => [.state, .elapsed]
  | .pollTimeout => [.state, .elapsed, .errKind, .errElapsed]
  | .holdDone => []
  | .holdFailed => []
  | .encA _ _ _ => []
  | .encB _ _ _ => []
  | .guard _ _ => []
  | .seqClr => [.seq]
  | .seqInc => [.seq]
  | .ackCmp _ => []
  | .tmrClr => [.elapsed]
  | .tmrTick => [.elapsed]

/-! ### Runs -/

/-- The operation a selection runs, if any. -/
def Selection.instr? : Selection → Option Instr
  | .op i => some i
  | .ignored => none
  | .refuse _ => none

/-- The operation the next step performs, if any. -/
def nextOp (s : State) : Option Instr := (fetch s).1.instr?

/-- The operations the first `k` steps perform, in order, up to where the machine stops. -/
def opTrace : Nat → State → List Instr
  | 0, _ => []
  | k + 1, s =>
    (nextOp s).toList ++
      match step s with
      | .next t => opTrace k t
      | .fault _ => []
      | .refused _ => []

/-- The chunk of a READ.CHUNK. -/
def chunkOf : Instr → Option (List Byte)
  | .readChunk c => some c
  | _ => none

/-- The chunks read, in order. -/
def chunksRead (l : List Instr) : List (List Byte) := l.filterMap chunkOf

/-- SEND, the only operation of the state machine that writes to TX (R110). -/
def isSend : Instr → Bool
  | .send => true
  | _ => false

/-- POLL.MATCH. -/
def isMatch : Instr → Bool
  | .pollMatch _ => true
  | _ => false

/-- POLL.MISMATCH. -/
def isMismatch : Instr → Bool
  | .pollMismatch _ => true
  | _ => false

/-- READ.EOF. -/
def isEof : Instr → Bool
  | .readEof => true
  | _ => false

/-! ### States that agree but for something dead -/

/-- The two states agree but for bytes of `CHUNK_BUF` that no rule reads: in Sending the first `CHUNK_LEN` bytes agree, in
every other state none need (R19, U21). -/
structure SameButDeadBytes (s t : State) : Prop where
  rest : t = { s with chunkBuf := t.chunkBuf }
  lengthS : s.chunkBuf.length = Config.chunkMax
  lengthT : t.chunkBuf.length = Config.chunkMax
  payload : s.phase = .sending → t.chunkBuf.take s.chunkLen.toNat = s.chunkBuf.take s.chunkLen.toNat

/-- The two states agree but for `CHAN`, and in variant B on `CHAN` too (R16, U26). -/
structure SameButUnusedChan (s t : State) : Prop where
  rest : t = { s with chan := t.chan }
  used : s.variant = .b → t.chan = s.chan

end Sys2Proof.Machine
end

