-- ==== Sys2Proof/Certificates/Slice0/Obligations.lean ====
section
/-! DEFINITION. The statements for the provers: what the rules of spec/ say the operations and the machine do. A statement of
an operation's result gives the whole next state, so it is also the operation's frame: what it does not name is unchanged.
That the model's own fields are among what is unchanged is the model's choice (`outs`: log 9, log 24; `inputs`: log 1;
`freeCount`: log 10). -/

open Sys2Proof Sys2Proof.Machine

/-! ### Reset and START -/

/-- R150, R36: the operation RESET completes in every state, every register takes its reset value, `CHUNK_BUF` becomes some
32 bytes, and neither the streams nor what is scheduled is touched (R152). That the reading of outputs `outs` is kept is the
model's choice (log 24), as is the counter of free bytes (log 10). -/
def Obligations.ResetGivesEveryRegisterItsResetValue : Prop :=
  ∀ s : State, ∃ (buf : List Byte) (n : Nat), buf.length = 32 ∧
    exec .reset s = .next
      { s with phase := .idle, seq := 0x00, variant := .a, chan := 0x00, tmo := timeoutDefaultTicks, elapsed := 0,
               chunkBuf := buf, chunkLen := 0, errKind := .none, errExpected := 0x00, errActual := 0x00, errElapsed := 0,
               freeCount := n }

/-- R36: the state after reset has R36's register values, and its outputs are all 0. (`CHUNK_BUF`'s bytes are the model's
choice, log 11, and are not stated.) -/
def Obligations.ResetStateHoldsTheResetValues : Prop :=
  State.reset.phase = .idle ∧ State.reset.seq = 0x00 ∧ State.reset.variant = .a ∧ State.reset.chan = 0x00 ∧
  State.reset.tmo = timeoutDefaultTicks ∧ State.reset.elapsed = 0 ∧ State.reset.chunkLen = 0 ∧
  State.reset.chunkBuf.length = 32 ∧ State.reset.errKind = .none ∧ State.reset.errExpected = 0x00 ∧
  State.reset.errActual = 0x00 ∧ State.reset.errElapsed = 0 ∧
  State.reset.busy = false ∧ State.reset.isDone = false ∧ State.reset.isFailed = false ∧
  State.reset.srcReq = false ∧ State.reset.txValid = false ∧ State.reset.rxReady = false

/-- R139, R151: `reset` is accepted in every state, alone or presented together with any event, and wins: the step is RESET.
That the event presented with it is then lost (the schedule goes on behind it) is the model's reading (log 16, DEDUCED). -/
def Obligations.ResetWinsOverEveryEvent : Prop :=
  ∀ (s : State) (e : Event) (l : List Input),
    (s.inputs = .event .reset :: l → step s = exec .reset { s with inputs := l }) ∧
    (s.inputs = .resetWith e :: l → step s = exec .reset { s with inputs := l })

/-- R106: in Idle the event `start` selects START; START samples the three configuration inputs, clears `SEQ`, goes to
Reading, and changes nothing else. -/
def Obligations.StartSamplesConfigurationAndClearsSeq : Prop :=
  ∀ (v : Variant) (c : Byte) (t : Ticks) (s : State),
    (s.phase = .idle → select (.start v c t) s = .op (.start v c t)) ∧
    exec (.start v c t) s =
      .next { s with variant := v, chan := c, tmo := t, seq := 0x00, phase := .reading }

/-! ### READ -/

/-- R108: in Reading a response of 1 to 32 bytes selects READ.CHUNK, which loads the head of `CHUNK_BUF`, sets `CHUNK_LEN`,
advances the source by the chunk's length, goes to Sending, and changes nothing else. -/
def Obligations.ReadChunkLoadsTheBuffer : Prop :=
  ∀ (c : List Byte) (s : State), 1 ≤ c.length → c.length ≤ 32 →
    (s.phase = .reading → select (.chunk c) s = .op (.readChunk c)) ∧
    exec (.readChunk c) s =
      .next { s with chunkBuf := c ++ s.chunkBuf.drop c.length, chunkLen := BitVec.ofNat 6 c.length,
                     srcPos := s.srcPos + c.length, phase := .sending }

/-- R109: in Reading the empty response selects READ.EOF, which goes to Done and changes nothing else: no frame, no cursor. -/
def Obligations.ReadEofEndsTheSessionInDone : Prop :=
  ∀ s : State,
    (s.phase = .reading → select (.chunk []) s = .op .readEof) ∧
    exec .readEof s = .next { s with phase := .done }

/-- R108, R109, R120, R68 (log 19): lengths the formats exclude are refused by name. -/
def Obligations.ExcludedLengthsAreRefused : Prop :=
  ∀ (s : State) (p : List Byte) (seq chan : Byte),
    exec (.readChunk []) s = .refused .chunkEmpty ∧
    (32 < p.length → exec (.readChunk p) s = .refused .chunkTooLong) ∧
    (32 < p.length → s.phase = .reading → select (.chunk p) s = .refuse .chunkTooLong) ∧
    (255 < p.length → exec (.frameA seq p) s = .refused .frameTooLong) ∧
    (255 < p.length → exec (.frameB seq chan p) s = .refused .frameTooLong)

/-- R43: the reference source. A read of `n` returns the next `n` bytes, fewer only at the end of the file, none exactly at
its end, and moves the cursor by what it returned; a file of `L` bytes gives `ceil(L / 32)` non-empty chunks, all of 32 bytes
but possibly the last, which together are the file, and then one empty read. -/
def Obligations.SourceReadsTheFileInChunks : Prop :=
  ∀ file : List Byte,
    (∀ pos n, pos ≤ file.length →
      (srcRead file pos n).1 = (file.drop pos).take n ∧
      (srcRead file pos n).1.length = min n (file.length - pos) ∧
      (srcRead file pos n).2 = pos + (srcRead file pos n).1.length ∧
      ((srcRead file pos 32).1 = [] ↔ pos = file.length)) ∧
    (fileChunks file).flatten = file ∧
    (fileChunks file).length = (file.length + 31) / 32 ∧
    (∀ c ∈ fileChunks file, 1 ≤ c.length ∧ c.length ≤ 32) ∧
    (∀ c ∈ (fileChunks file).dropLast, c.length = 32) ∧
    srcRead file file.length 32 = ([], file.length)

/-! ### SEND -/

/-- R110, R111: in Sending the block's step is SEND; it increments `SEQ`, appends to TX one frame that carries the
incremented id, the channel in variant B only, the length and the payload, clears `ELAPSED`, goes to AwaitingAck, and changes
nothing else. -/
def Obligations.SendWritesOneWholeFrame : Prop :=
  ∀ s : State, s.chunkLen.toNat ≤ s.chunkBuf.length →
    (s.phase = .sending → select .send s = .op .send) ∧
    exec .send s =
      .next { s with tx := s.tx ++ ([0xEF, 0xBE, s.seq + 1] ++ (match s.variant with | .a => [] | .b => [s.chan]) ++
                             [s.chunkLen.setWidth 8] ++ s.chunkBuf.take s.chunkLen.toNat),
                     seq := s.seq + 1, elapsed := 0, phase := .awaitingAck }

/-- The model's choice, log 17: a `CHUNK_LEN` beyond the buffer, which no run reaches (R37), makes SEND fault. -/
def Obligations.SendBeyondTheBufferFaults : Prop :=
  ∀ s : State, s.chunkBuf.length < s.chunkLen.toNat → exec .send s = .fault .chunkBufOverrun

/-- R113, C1: SEND.TOOLARGE increments `SEQ`, writes nothing to TX, records `PayloadTooLarge`, goes to Failed, and changes
nothing else; no event ever selects it, since `CHUNK_LEN` has 6 bits ("Unreachable with `CHUNK_MAX = 32`"). -/
def Obligations.SendTooLargeRefusesAndIsNeverSelected : Prop :=
  ∀ s : State,
    exec .sendTooLarge s = .next { s with seq := s.seq + 1, errKind := .payloadTooLarge, phase := .failed } ∧
    ∀ e : Event, select e s ≠ .op .sendTooLarge

/-- R27, R49: `tx_valid` is 1 exactly in Sending, and there `tx_data` is the frame SEND hands over, of
`HDR_LEN + CHUNK_LEN` bytes. -/
def Obligations.TxDataIsTheFrameSendHandsOver : Prop :=
  ∀ s t : State, (s.txValid = true ↔ s.phase = .sending) ∧
    (s.phase = .sending → exec .send s = .next t →
      t.tx = s.tx ++ s.txData ∧ s.txData.length = Config.hdrLen s.variant + s.chunkLen.toNat)

/-- R92, R94: the increment is modulo 256 and the carry is dropped: SEND and SEND.TOOLARGE leave `SEQ + 1` modulo 256, and
`0xFF` gives `0x00`. -/
def Obligations.SequenceIdCountsModulo256 : Prop :=
  ∀ s t : State,
    (exec .send s = .next t → t.seq.toNat = (s.seq.toNat + 1) % 256) ∧
    (exec .sendTooLarge s = .next t → t.seq.toNat = (s.seq.toNat + 1) % 256) ∧
    (exec .seqInc s = .next t → t.seq.toNat = (s.seq.toNat + 1) % 256)

/-! ### POLL -/

/-- R114, R95: in AwaitingAck the event of a byte equal to `SEQ` (the head of RX, or, with RX empty, a byte that arrived
and was taken between two steps, log 15) selects POLL.MATCH, which takes one byte from RX, goes to Reading, and changes
nothing else. -/
def Obligations.PollMatchContinuesTheLoop : Prop :=
  ∀ (b : Byte) (s : State),
    (s.phase = .awaitingAck → (s.rx = [] ∨ s.rx.head? = some b) → b = s.seq → select (.ack b) s = .op (.pollMatch b)) ∧
    exec (.pollMatch b) s = .next { s with rx := s.rx.tail, rxTaken := s.rxTaken + 1, phase := .reading }

/-- R115, R133: in AwaitingAck the event of a byte different from `SEQ` (the head of RX, or, with RX empty, a byte that
arrived and was taken between two steps, log 15) selects POLL.MISMATCH, which takes one byte from RX, records
`SequenceMismatch` with the expected and the actual value, goes to Failed, and changes nothing else. -/
def Obligations.PollMismatchRecordsExpectedAndActual : Prop :=
  ∀ (b : Byte) (s : State),
    (s.phase = .awaitingAck → (s.rx = [] ∨ s.rx.head? = some b) → b ≠ s.seq → select (.ack b) s = .op (.pollMismatch b)) ∧
    exec (.pollMismatch b) s =
      .next { s with rx := s.rx.tail, rxTaken := s.rxTaken + 1, errKind := .sequenceMismatch, errExpected := s.seq,
                     errActual := b, phase := .failed }

/-- R116: in AwaitingAck an empty poll with budget left selects POLL.EMPTY, which adds 1 to `ELAPSED`, stays in AwaitingAck,
and changes nothing else. -/
def Obligations.PollEmptyCountsOneTick : Prop :=
  ∀ s : State,
    (s.phase = .awaitingAck → s.rx = [] → s.elapsed + 1 < s.tmo → select .tick s = .op .pollEmpty) ∧
    exec .pollEmpty s = .next { s with elapsed := s.elapsed + 1, phase := .awaitingAck }

/-- R117, R132: in AwaitingAck an empty poll that spends the budget selects POLL.TIMEOUT, which adds 1 to `ELAPSED`, records
`RxTimeout` with the new value, goes to Failed, and changes nothing else: nothing leaves RX. -/
def Obligations.PollTimeoutRecordsElapsed : Prop :=
  ∀ s : State,
    (s.phase = .awaitingAck → s.rx = [] → s.tmo ≤ s.elapsed + 1 → select .tick s = .op .pollTimeout) ∧
    exec .pollTimeout s =
      .next { s with elapsed := s.elapsed + 1, errKind := .rxTimeout, errElapsed := s.elapsed + 1, phase := .failed }

/-- R100: `TMO = 0` behaves exactly as `TMO = 1`: in a reachable AwaitingAck state every event selects the same operation,
and the first empty poll is the timeout. -/
def Obligations.ZeroBudgetBehavesAsOne : Prop :=
  ∀ s : State, BlockInv s → s.phase = .awaitingAck → s.tmo = 0 →
    (∀ e : Event, select e s = select e { s with tmo := 1 }) ∧
    (s.rx = [] → select .tick s = .op .pollTimeout)

/-- R138, R155 (log 14): whichever poll event is presented in AwaitingAck while a byte waits, the head of RX is the byte
taken, whatever it is and whenever it arrived, and the byte wins over the end of the budget. -/
def Obligations.WaitingByteIsTakenWhateverItIs : Prop :=
  ∀ (s : State) (x : Byte) (q : List Byte) (l : List Input), s.phase = .awaitingAck → s.rx = x :: q →
    s.inputs = .event .tick :: l ∨ s.inputs = .event (.ack x) :: l →
    step s = .next (if x = s.seq then
        { s with inputs := l, rx := q, rxTaken := s.rxTaken + 1, phase := .reading }
      else
        { s with inputs := l, rx := q, rxTaken := s.rxTaken + 1, errKind := .sequenceMismatch, errExpected := s.seq,
                 errActual := x, phase := .failed })

/-- R99, R132, R164: with no byte arriving, a round fails on its `max(TMO, 1)`-th consecutive empty poll and on no earlier
one, and the record says so. -/
def Obligations.SilentRoundTimesOutAfterExactlyItsBudget : Prop :=
  ∀ (s : State) (l : List Input), s.phase = .awaitingAck → s.elapsed = 0 → s.rx = [] →
    s.inputs = ticks (budget s.tmo).toNat ++ l →
    Host.Core.run core (budget s.tmo).toNat s =
      .next { s with inputs := l, elapsed := budget s.tmo, errKind := .rxTimeout, errElapsed := budget s.tmo,
                     phase := .failed } ∧
    ∀ k < (budget s.tmo).toNat, ∃ t : State, Host.Core.run core k s = .next t ∧
      t.phase = .awaitingAck ∧ t.elapsed = BitVec.ofNat 32 k

/-! ### HOLD, ignored events, events that cannot be presented -/

/-- R118, read with R120 and R121's blank cells (log 13, the model's reading of "any event other than `reset`"): in a terminal
state `start` and `tick` select HOLD.DONE or HOLD.FAILED, `chunk`, `ack` and `send` cannot be presented and are refused, and
both HOLDs leave everything as it is. -/
def Obligations.TerminalStatesHold : Prop :=
  ∀ (s : State) (v : Variant) (c : Byte) (t : Ticks) (x : List Byte) (b : Byte),
    (s.phase = .done → select (.start v c t) s = .op .holdDone ∧ select .tick s = .op .holdDone) ∧
    (s.phase = .failed → select (.start v c t) s = .op .holdFailed ∧ select .tick s = .op .holdFailed) ∧
    (s.phase = .done ∨ s.phase = .failed →
      select (.chunk x) s = .refuse .chunkNotRequested ∧ select .send s = .refuse .sendNotReady ∧
      select (.ack b) s = .refuse .ackNotPolled) ∧
    exec .holdDone s = .next s ∧ exec .holdFailed s = .next s

/-- R119, R101, R158: `start` outside Idle and `tick` outside AwaitingAck are accepted and change no register and no stream. -/
def Obligations.StrayStartAndTickChangeNothing : Prop :=
  ∀ (s : State) (v : Variant) (c : Byte) (t : Ticks) (l : List Input),
    (s.phase ≠ .idle → s.inputs = .event (.start v c t) :: l → step s = .next { s with inputs := l }) ∧
    (s.phase ≠ .awaitingAck → s.inputs = .event .tick :: l → step s = .next { s with inputs := l })

/-- R120, R121, terminal states included (log 13): an event is stepped on exactly when it can be presented, and otherwise
the step is refused. Which `ack(b)` can be presented in AwaitingAck is the model's reading of R47 (log 15): the head of RX, or
any byte where RX is empty. -/
def Obligations.StepAnswersExactlyPresentableEvents : Prop :=
  ∀ (s : State) (e : Event) (l : List Input), BlockInv s → s.inputs = .event e :: l →
    ((∃ t, step s = .next t) ↔ presentable e s = true) ∧
    ((∃ r, step s = .refused r) ↔ presentable e s = false)

/-- R121: the `STATE` each event that is stepped on leads to. The blank cells have no step, those of Done and Failed included
(log 13). The model's choices: a `tick` while a byte waits in RX is the poll that finds it (log 14, DEDUCED), and with RX empty
`ack(b)` takes a byte that arrived between two steps (log 15, DESIGN CHOICE). -/
def Obligations.TransitionTable : Prop :=
  ∀ (s t : State) (e : Event) (l : List Input), s.inputs = .event e :: l → step s = .next t →
    t.phase =
      match e, s.phase with
      | .reset, _ => .idle
      | .start _ _ _, .idle => .reading
      | .chunk c, .reading => if c.length = 0 then .done else .sending
      | .send, .sending => .awaitingAck
      | .ack b, .awaitingAck => if b = s.seq then .reading else .failed
      | .tick, .awaitingAck =>
        match s.rx with
        | [] => if s.tmo ≤ s.elapsed + 1 then .failed else .awaitingAck
        | b :: _ => if b = s.seq then .reading else .failed
      | _, p => p

/-- R118, R139, R142, R151, R156: a step from Done or Failed that is not RESET keeps every register, the error record among
them, and every stream but for bytes that arrive in RX: nothing is sent, nothing is taken. -/
def Obligations.OnlyResetLeavesATerminalState : Prop :=
  ∀ s t : State, s.envOnly = true → (s.phase = .done ∨ s.phase = .failed) → step s = .next t →
    nextOp s ≠ some .reset → ∃ q : List Byte, t = { s with inputs := t.inputs, rx := s.rx ++ q }

/-- R25, R151: nothing but `reset` brings the block back to Idle: there is no cancel. -/
def Obligations.OnlyResetAbandonsASession : Prop :=
  ∀ s t : State, s.envOnly = true → s.phase ≠ .idle → step s = .next t → t.phase = .idle → nextOp s = some .reset

/-! ### Errors -/

/-- R140: raising an error writes its own part of the error record and `STATE <- Failed`, and nothing else; raised where a
run can raise it, the error registers not named keep their reset value 0. -/
def Obligations.RaiseWritesTheRecordAndNothingElse : Prop :=
  ∀ (s : State) (x : Ticks) (p q : Byte),
    s.raise .payloadTooLarge = { s with errKind := .payloadTooLarge, phase := .failed } ∧
    s.raise (.rxTimeout x) = { s with errKind := .rxTimeout, errElapsed := x, phase := .failed } ∧
    s.raise (.sequenceMismatch p q) =
      { s with errKind := .sequenceMismatch, errExpected := p, errActual := q, phase := .failed } ∧
    (BlockInv s → s.phase ≠ .failed →
      (s.raise .payloadTooLarge).errExpected = 0 ∧ (s.raise .payloadTooLarge).errActual = 0 ∧
      (s.raise .payloadTooLarge).errElapsed = 0 ∧ (s.raise (.rxTimeout x)).errExpected = 0 ∧
      (s.raise (.rxTimeout x)).errActual = 0 ∧ (s.raise (.sequenceMismatch p q)).errElapsed = 0)

/-! ### Registers and streams: who writes what -/

/-- R11, R12, R19, R20, R21, R22, R32: an operation changes no register but those the rules name for it. -/
def Obligations.RegistersAreWrittenOnlyByTheirOperations : Prop :=
  ∀ (i : Instr) (s t : State) (r : Reg), exec i s = .next t → r ∉ mayWrite i → sameReg r s t

/-- R33, R40, R45, R47, R50: over a step of the hardware, TX is only ever appended to, by SEND; the source is moved only by
READ.CHUNK; RX loses a byte only to a poll that returned one, and gains bytes only at its tail, by arrival. -/
def Obligations.StreamsAreReachedOnlyByTheirOperations : Prop :=
  ∀ s t : State, s.envOnly = true → step s = .next t →
    (t.tx = s.tx ∨ (nextOp s = some .send ∧ ∃ f, t.tx = s.tx ++ f)) ∧
    (t.srcPos = s.srcPos ∨ ∃ c, nextOp s = some (.readChunk c) ∧ t.srcPos = s.srcPos + c.length) ∧
    ((t.rx = s.rx ∧ t.rxTaken = s.rxTaken) ∨
     (∃ b, nextOp s = some (.ack b) ∧ t.rx = s.rx ++ [b] ∧ t.rxTaken = s.rxTaken) ∨
     (∃ b, (nextOp s = some (.pollMatch b) ∨ nextOp s = some (.pollMismatch b)) ∧ t.rx = s.rx.tail ∧
       t.rxTaken = s.rxTaken + 1))

/-- R30, R31, R13, R20: exactly one of `idle`, `busy`, `done`, `failed` is 1, the request outputs follow `STATE`, and the
status outputs are the registers. -/
def Obligations.OutputsFollowTheRegisters : Prop :=
  ∀ s : State,
    s.isIdle.toNat + s.busy.toNat + s.isDone.toNat + s.isFailed.toNat = 1 ∧
    (s.busy = true ↔ s.phase = .reading ∨ s.phase = .sending ∨ s.phase = .awaitingAck) ∧
    (s.isDone = true ↔ s.phase = .done) ∧ (s.isFailed = true ↔ s.phase = .failed) ∧ (s.isIdle = true ↔ s.phase = .idle) ∧
    (s.srcReq = true ↔ s.phase = .reading) ∧ (s.txValid = true ↔ s.phase = .sending) ∧
    (s.rxReady = true ↔ s.phase = .awaitingAck) ∧
    s.status.state = (match s.phase with
      | .idle => 0b000 | .reading => 0b001 | .sending => 0b010 | .awaitingAck => 0b011 | .done => 0b100 | .failed => 0b101) ∧
    s.status.errKind = (match s.errKind with
      | .none => 0 | .payloadTooLarge => 1 | .rxTimeout => 2 | .sequenceMismatch => 3) ∧
    s.status.variant = (match s.variant with | .a => 0 | .b => 1) ∧
    s.status.seq = s.seq ∧ s.status.chan = s.chan ∧ s.status.tmo = s.tmo ∧ s.status.elapsed = s.elapsed ∧
    s.status.chunkLen = s.chunkLen ∧ s.status.errExpected = s.errExpected ∧ s.status.errActual = s.errActual ∧
    s.status.errElapsed = s.errElapsed

/-! ### The encoder -/

/-- R82, R81, R84: ENC.A completes on every input: a payload of at most 255 bytes gives `EF BE seq len` and the payload,
a longer one gives `too_large` and no frame; `chan` does not matter, and no register and no stream is touched. The model's
choices: the outputs stand in the field `outs`, whose other two outputs are kept (log 9), and a payload may have more than the
511 bytes a 9-bit length can say (log 21). -/
def Obligations.EncoderBuildsFramesOfVariantA : Prop :=
  ∀ (seq chan : Byte) (p : List Byte) (s : State),
    exec (.encA seq chan p) s = .next { s with outs := { s.outs with
      tooLarge := decide (255 < p.length)
      frame := if 255 < p.length then [] else [0xEF, 0xBE, seq, BitVec.ofNat 8 p.length] ++ p
      flen := if 255 < p.length then 0 else BitVec.ofNat 9 (4 + p.length) } }

/-- R83, R81, R84: ENC.B completes on every input; it differs from ENC.A in the channel byte after the sequence id.
The model's choices are those of ENC.A: the outputs stand in the field `outs`, whose other two outputs are kept (log 9), and a
payload may have more than 511 bytes (log 21). -/
def Obligations.EncoderBuildsFramesOfVariantB : Prop :=
  ∀ (seq chan : Byte) (p : List Byte) (s : State),
    exec (.encB seq chan p) s = .next { s with outs := { s.outs with
      tooLarge := decide (255 < p.length)
      frame := if 255 < p.length then [] else [0xEF, 0xBE, seq, chan, BitVec.ofNat 8 p.length] ++ p
      flen := if 255 < p.length then 0 else BitVec.ofNat 9 (5 + p.length) } }

/-- R81: GUARD completes for all 512 lengths, in both variants: `too_large` is 1 exactly above 255, and then the frame is
empty and its length 0. The model's choice (log 9): the outputs stand in the field `outs`, and a GUARD that accepts keeps the
frame and the length shown there. -/
def Obligations.GuardRefusesLengthsAbove255 : Prop :=
  ∀ (v : Variant) (n : Len9) (s : State),
    exec (.guard v n) s = .next { s with outs :=
      if 255 < n.toNat then { s.outs with tooLarge := true, frame := [], flen := 0 }
      else { s.outs with tooLarge := false } }

/-- R86: the length law, and that it fits: a frame has `HDR_LEN + plen` bytes, at most 260. -/
def Obligations.FrameLengthIsHeaderPlusPayload : Prop :=
  ∀ (v : Variant) (seq chan : Byte) (p f : List Byte), encodeFrame v seq chan p = some f →
    f.length = (match v with | .a => 4 | .b => 5) + p.length ∧ f.length ≤ 260 ∧
    (BitVec.ofNat 9 f.length).toNat = f.length

/-- R85: the byte-serial view is the same function: byte `i` of the frame is `frame_byte(i)`, and `last(i)` holds at its
last byte only. -/
def Obligations.ByteSerialViewAgreesWithTheFrame : Prop :=
  ∀ (v : Variant) (seq chan : Byte) (p f : List Byte), encodeFrame v seq chan p = some f →
    f = (List.range f.length).map (frameByte v seq chan p) ∧
    ∀ i, frameLast v seq chan p i = true ↔ i = f.length - 1

/-- R88, R67: encoding followed by the reference decode recovers the inputs; so for a fixed variant the encoder is injective
on what it sends; across variants it is not. -/
def Obligations.ReferenceDecodeRecoversTheInputs : Prop :=
  (∀ (v : Variant) (seq chan : Byte) (p : List Byte), p.length ≤ 255 →
    ∃ f, encodeFrame v seq chan p = some f ∧
      referenceDecode v f = .ok (seq, (match v with | .a => none | .b => some chan), p)) ∧
  (∀ (v : Variant) (seq chan seq' chan' : Byte) (p p' f : List Byte),
    encodeFrame v seq chan p = some f → encodeFrame v seq' chan' p' = some f →
    seq = seq' ∧ p = p' ∧ (v = .b → chan = chan')) ∧
  (∃ (seq seq' chan : Byte) (p p' f : List Byte),
    encodeFrame .a seq chan p = some f ∧ encodeFrame .b seq' chan p' = some f)

/-- R87, R66, R68: the reference decode accepts exactly the frames of its variant, and says why it refuses the rest: too
short for a header, not beginning `EF BE`, or of another length than the header tells. -/
def Obligations.ReferenceDecodeAcceptsExactlyTheFrames : Prop :=
  ∀ (v : Variant) (b : List Byte),
    (∀ (seq : Byte) (c : Option Byte) (p : List Byte),
      referenceDecode v b = .ok (seq, c, p) ↔
        ∃ chan, encodeFrame v seq chan p = some b ∧ c = (match v with | .a => none | .b => some chan)) ∧
    (referenceDecode v b = .error .short ↔ b.length < Config.hdrLen v) ∧
    (referenceDecode v b = .error .badMagic ↔
      Config.hdrLen v ≤ b.length ∧ ¬ (byteAt b 0 = 0xEF ∧ byteAt b 1 = 0xBE)) ∧
    (referenceDecode v b = .error .badLength ↔
      Config.hdrLen v ≤ b.length ∧ byteAt b 0 = 0xEF ∧ byteAt b 1 = 0xBE ∧
      b.length ≠ Config.hdrLen v + (byteAt b (Config.hdrLen v - 1)).toNat)

/-- R65: the header of every frame, read as one little-endian integer, is the integer of R65, matches the opcode table's
match and mask, and holds the fields at the bits the table says. -/
def Obligations.HeaderIntegersMatchTheTable : Prop :=
  ∀ (seq chan : Byte) (p f : List Byte),
    (encodeFrame .a seq chan p = some f →
      leNat (f.take 4) = (headerIntA seq (BitVec.ofNat 8 p.length)).toNat ∧
      headerIntA seq (BitVec.ofNat 8 p.length) &&& 0x0000FFFF = 0x0000BEEF ∧
      (headerIntA seq (BitVec.ofNat 8 p.length)).extractLsb' 16 8 = seq ∧
      ((headerIntA seq (BitVec.ofNat 8 p.length)).extractLsb' 24 8).toNat = p.length) ∧
    (encodeFrame .b seq chan p = some f →
      leNat (f.take 5) = (headerIntB seq chan (BitVec.ofNat 8 p.length)).toNat ∧
      headerIntB seq chan (BitVec.ofNat 8 p.length) &&& 0x000000FFFF = 0x000000BEEF ∧
      (headerIntB seq chan (BitVec.ofNat 8 p.length)).extractLsb' 16 8 = seq ∧
      (headerIntB seq chan (BitVec.ofNat 8 p.length)).extractLsb' 24 8 = chan ∧
      ((headerIntB seq chan (BitVec.ofNat 8 p.length)).extractLsb' 32 8).toNat = p.length)

/-! ### Datapath strobes and wire formats -/

/-- R91, R97: SEQ.CLR and TMR.CLR write 0 to their register and nothing else. -/
def Obligations.ClearStrobesWriteZero : Prop :=
  ∀ s : State, exec .seqClr s = .next { s with seq := 0x00 } ∧ exec .tmrClr s = .next { s with elapsed := 0 }

/-- R92: SEQ.INC writes `SEQ + 1` and nothing else. -/
def Obligations.SeqIncWritesOneMore : Prop :=
  ∀ s : State, exec .seqInc s = .next { s with seq := s.seq + 1 }

/-- R95: ACK.CMP writes no register; its output compares all 8 bits of the byte with `SEQ`. The model's choice (log 9): the
output stands in the field `outs`, whose other outputs are kept. -/
def Obligations.AckCmpComparesWithSeq : Prop :=
  ∀ (b : Byte) (s : State),
    exec (.ackCmp b) s = .next { s with outs := { s.outs with ackMatch := decide (b = s.seq) } }

/-- R98, R99: TMR.TICK adds 1 to `ELAPSED`; `expired` compares the value after the increment with `TMO`. The model's choice
(log 9): `expired` stands in the field `outs`, whose other outputs are kept. -/
def Obligations.TmrTickCountsAndCompares : Prop :=
  ∀ s : State,
    exec .tmrTick s = .next { s with elapsed := s.elapsed + 1,
                                     outs := { s.outs with expired := decide (s.tmo ≤ s.elapsed + 1) } }

/-- R61, R62, R63 with the model's reading of what a wire format does (log 8): a frame of at most 255 payload bytes goes
whole to the end of TX, an acknowledgement byte to the tail of RX; nothing else changes. -/
def Obligations.WireUnitsGoToTheirStreams : Prop :=
  ∀ (seq chan : Byte) (p : List Byte) (s : State),
    (p.length ≤ 255 → exec (.frameA seq p) s =
      .next { s with tx := s.tx ++ ([0xEF, 0xBE, seq, BitVec.ofNat 8 p.length] ++ p) }) ∧
    (p.length ≤ 255 → exec (.frameB seq chan p) s =
      .next { s with tx := s.tx ++ ([0xEF, 0xBE, seq, chan, BitVec.ofNat 8 p.length] ++ p) }) ∧
    exec (.ack seq) s = .next { s with rx := s.rx ++ [seq] }

/-! ### Decoding -/

/-- R61, R62, R63, R73, R72, R70 and 95_test_vectors.md E2, E6: a few words, written out, are read as the operations they
stand for (the operation bytes are the model's, log 4). -/
def Obligations.WrittenOutWordsDecode : Prop :=
  decode .txA [0xEF, 0xBE, 0xA5, 0x01, 0x03] = .ok (.frameA 0xA5 [0x03], []) ∧
  decode .txB [0xEF, 0xBE, 0xA5, 0x3C, 0x01, 0x03] = .ok (.frameB 0xA5 0x3C [0x03], []) ∧
  decode .rx [0x01] = .ok (.ack 0x01, []) ∧
  decode .op [0x00, 0x01, 0x05, 0x08, 0x00, 0x00, 0x00] = .ok (.start .b 0x05 8, []) ∧
  decode .op [0x81] = .ok (.seqClr, []) ∧
  decodeTableWord 32 0x00A5BEEF = some (.frameA 0xA5 []) ∧
  decodeTableWord 40 0x003CA5BEEF = some (.frameB 0xA5 0x3C [])

/-- The images are R61's to R63's for the wire formats and the model's own for every other operation (log 4, DESIGN CHOICE: the
spec gives those no bytes). Decoding the image of a well-formed operation gives the operation and leaves what stands behind it: no bit of any operand
is dropped, for every operand value. -/
def Obligations.DecodeOfEncodeIsTheOperation : Prop :=
  ∀ (i : Instr) (rest : List Byte), i.wf = true → decode i.port (encode i ++ rest) = .ok (i, rest)

/-- Whatever the decoder accepts is well-formed, at every port (R68, R80, R108). What it accepts at the port of operation images
is the model's choice (log 4, DESIGN CHOICE). -/
def Obligations.DecodedOperationsAreWellFormed : Prop :=
  ∀ (p : Port) (b rest : List Byte) (i : Instr), decode p b = .ok (i, rest) → i.wf = true

/-! ### The step -/

/-- R105, R70 (log 1, log 2): a step takes the next input off the schedule and runs what it selects; with nothing scheduled
the block takes its own `send` in Sending and waits in every other state. -/
def Obligations.StepRunsTheSelectedOperation : Prop :=
  ∀ (s : State) (i : Instr) (e : Event) (b : Byte) (l : List Input),
    (s.inputs = .event e :: l → select e s = .op i → step s = exec i { s with inputs := l }) ∧
    (s.inputs = .event e :: l → select e s = .ignored → step s = .next { s with inputs := l }) ∧
    (s.inputs = .arrive b :: l → step s = exec (.ack b) { s with inputs := l }) ∧
    (s.inputs = [] → s.phase = .sending → select .send s = .op i → step s = exec i s) ∧
    (s.inputs = [] → s.phase ≠ .sending → step s = .next s)

/-- The model's bench access (log 6): an image that decodes is run, and a placed table word runs as the very next step. -/
def Obligations.StepRunsTheDecodedOperation : Prop :=
  ∀ (s : State) (i : Instr) (p : Port) (b rest : List Byte) (l : List Input) (nbits w : Nat),
    (s.inputs = .bench p b :: l → decode p b = .ok (i, rest) → step s = exec i { s with inputs := l }) ∧
    (decodeTableWord nbits w = some i → step (s.withFetchWord nbits w) = exec i s)

/-! ### Invariants and whole runs -/

/-- R37 at reset. -/
def Obligations.InvariantHoldsAtReset : Prop := BlockInv State.reset

/-- R37: every step of the hardware keeps the invariants, from every state that meets them. -/
def Obligations.EveryStepKeepsTheInvariant : Prop :=
  ∀ s t : State, s.envOnly = true → BlockInv s → step s = .next t → BlockInv t ∧ t.envOnly = true

/-- R135, R19 with R37: from a state that meets the invariants no step of the hardware faults. -/
def Obligations.NoHardwareStepFaults : Prop :=
  ∀ s : State, s.envOnly = true → BlockInv s → ∀ f : Fault, step s ≠ .fault f

/-- R93: over any run of the hardware without a reset, outside Idle, `SEQ` moves by the number of SEND steps modulo 256. -/
def Obligations.SeqIsTheNumberOfSendsModulo256 : Prop :=
  ∀ (k : Nat) (s t : State), s.envOnly = true → s.noReset = true → s.phase ≠ .idle → Host.Core.run core k s = .next t →
    t.seq.toNat = (s.seq.toNat + (opTrace k s).countP isSend) % 256

/-- R37, R24, R57: outside Idle no run without a reset changes the session's variant, channel or budget, whatever the
environment presents. -/
def Obligations.ConfigurationIsFixedForTheSession : Prop :=
  ∀ (k : Nat) (s t : State), s.envOnly = true → s.noReset = true → s.phase ≠ .idle → Host.Core.run core k s = .next t →
    t.variant = s.variant ∧ t.chan = s.chan ∧ t.tmo = s.tmo

/-- R37, R28: the bytes taken from RX since START are as many as the POLL.MATCH and POLL.MISMATCH steps together, and at
most as many as the SEND steps. -/
def Obligations.BytesTakenAreThePollsThatGotOne : Prop :=
  ∀ (k : Nat) (s t : State), BlockInv s → s.envOnly = true → s.noReset = true → s.phase = .reading →
    Host.Core.run core k s = .next t →
    t.rxTaken = s.rxTaken + (opTrace k s).countP isMatch + (opTrace k s).countP isMismatch ∧
    (opTrace k s).countP isMatch + (opTrace k s).countP isMismatch ≤ (opTrace k s).countP isSend

/-- R123, R93, R110: a session. From the state after START (Reading, `SEQ` 0), over every run under every environment
without a reset: if it has reached Done, it read `N` chunks, sent `N` frames, matched `N` acknowledgements and saw one end of
input; TX grew by exactly the frames of those chunks in order, with ids 1, 2, ... modulo 256; the source moved by their
lengths. If it has reached Failed in round `i`, it read `i` chunks, wrote `i` frames and matched `i - 1` acknowledgements. -/
def Obligations.SessionSendsEachChunkOnceInOrder : Prop :=
  ∀ (k : Nat) (s t : State), BlockInv s → s.envOnly = true → s.noReset = true → s.phase = .reading → s.seq = 0 →
    Host.Core.run core k s = .next t →
    (t.phase = .done ∨ t.phase = .failed →
      t.tx = s.tx ++ wireImage s.variant s.chan 0 (chunksRead (opTrace k s)) ∧
      t.srcPos = s.srcPos + (chunksRead (opTrace k s)).flatten.length ∧
      (opTrace k s).countP isSend = (chunksRead (opTrace k s)).length) ∧
    (t.phase = .done →
      (opTrace k s).countP isMatch = (chunksRead (opTrace k s)).length ∧ (opTrace k s).countP isEof = 1) ∧
    (t.phase = .failed →
      (opTrace k s).countP isMatch + 1 = (chunksRead (opTrace k s)).length ∧ (opTrace k s).countP isEof = 0)

/-- R54, R124: lock-step. At every point of a session there are at most one more SEND than matched acknowledgements; a SEND
or a read of the source comes next only when every frame sent has been acknowledged, by a byte equal to its id. -/
def Obligations.LockStep : Prop :=
  ∀ (k : Nat) (s t : State), BlockInv s → s.envOnly = true → s.noReset = true → s.phase = .reading →
    Host.Core.run core k s = .next t →
    (opTrace k s).countP isSend ≤ (opTrace k s).countP isMatch + 1 ∧
    (nextOp t = some .send → (opTrace k s).countP isSend = (opTrace k s).countP isMatch) ∧
    ((nextOp t = some .readEof ∨ ∃ c, nextOp t = some (.readChunk c)) →
      (opTrace k s).countP isSend = (opTrace k s).countP isMatch) ∧
    (∀ b, nextOp t = some (.pollMatch b) → b = t.seq ∧
      (opTrace k s).countP isSend = (opTrace k s).countP isMatch + 1)

/-- R59, R43, R123: under the reference source and the ideal receiver a session over ANY file, in either variant and with any
budget, reaches Done, delivers the file whole in frames 1, 2, ..., and consumes the file and one byte of RX a frame. -/
def Obligations.IdealSessionDeliversTheFile : Prop :=
  ∀ (v : Variant) (ch : Byte) (b : Ticks) (file : List Byte) (s : State), BlockInv s → s.phase = .idle → s.rx = [] →
    s.inputs = idealSession v ch b file →
    ∃ t : State, Host.Core.run core (4 * (fileChunks file).length + 2) s = .next t ∧
      t.phase = .done ∧ t.inputs = [] ∧
      t.tx = s.tx ++ wireImage v ch 0 (fileChunks file) ∧
      t.srcPos = s.srcPos + file.length ∧
      t.rx = [] ∧ t.rxTaken = s.rxTaken + (fileChunks file).length ∧
      t.seq = BitVec.ofNat 8 (fileChunks file).length ∧ t.errKind = .none

/-! ### What is never read -/

/-- R19, R36, U21: the bytes of `CHUNK_BUF` at `CHUNK_LEN` and above, and all of them outside Sending, are never read: under
inputs of the environment, states that differ in nothing else step alike. -/
def Obligations.DeadBufferBytesAreNeverRead : Prop :=
  ∀ s u t : State, s.envOnly = true → SameButDeadBytes s u → step s = .next t →
    ∃ w : State, step u = .next w ∧ SameButDeadBytes t w

/-- R16, U26: in variant A `CHAN` is never read and never reaches the wire: states that differ in nothing else step alike,
whatever the inputs, and agree on TX. -/
def Obligations.ChannelIsDeadInVariantA : Prop :=
  ∀ s u t : State, SameButUnusedChan s u → step s = .next t →
    ∃ w : State, step u = .next w ∧ SameButUnusedChan t w ∧ w.tx = t.tx

/-- R23 ("None is stored"), log 9: the model's reading of outputs is never read: states that differ in nothing else step
alike, whatever the inputs. -/
def Obligations.SignalOutputsAreNeverRead : Prop :=
  ∀ (s t : State) (o : Outs), step s = .next t →
    ∃ o' : Outs, step { s with outs := o } = .next { t with outs := o' }
end

