-- ==== Sys2Proof/Laws/Decode.lean ====
section
/-! SUPPORT. What the decoder's shared readers can answer. -/

namespace Sys2Proof

/-- A take answers exactly where the bytes begin with a run of that length. -/
theorem takeBytes_ok_iff {n : Nat} {s p r : List Byte} :
    takeBytes n s = .ok (p, r) ↔ s = p ++ r ∧ p.length = n := by
  induction n generalizing s p r with
  | zero => cases p <;> simp [takeBytes, eq_comm]
  | succ n ih =>
    cases s with
    | nil => cases p <;> simp [takeBytes]
    | cons b s =>
      simp only [takeBytes]
      cases h : takeBytes n s with
      | ok y =>
        obtain ⟨x, rest⟩ := y
        obtain ⟨rfl, rfl⟩ := ih.1 h
        cases p with
        | nil => simp
        | cons c p =>
          simp only [Except.ok.injEq, Prod.mk.injEq, List.cons.injEq, List.cons_append, List.length_cons,
            Nat.add_right_cancel_iff]
          constructor
          · rintro ⟨⟨rfl, rfl⟩, rfl⟩; simp
          · rintro ⟨⟨rfl, h1⟩, h2⟩
            obtain ⟨rfl, rfl⟩ := List.append_inj h1 h2.symm
            simp
      | error e =>
        simp only [reduceCtorEq, false_iff, not_and]
        intro h1 h2
        cases p with
        | nil => simp at h2
        | cons c p =>
          simp only [List.cons_append, List.cons.injEq] at h1
          have := (ih (s := s) (p := p) (r := r)).2 ⟨h1.2, by simpa using h2⟩
          rw [h] at this
          cases this

/-- Taking as many bytes as stand in front. -/
theorem takeBytes_append (p r : List Byte) : takeBytes p.length (p ++ r) = .ok (p, r) := takeBytes_ok_iff.2 ⟨rfl, rfl⟩

end Sys2Proof
end

