-- ==== Sys2Proof/Laws/Flags.lean ====
section
/-! SUPPORT. What each condition signal says (R23), as a proposition. -/

namespace Sys2Proof.Machine

/-- `eof` (R109). -/
@[simp] theorem eof_iff (c : List Byte) : eof c = true ↔ c = [] := by simp [eof]

/-- `too_large` (R81): 255 is accepted, 256 is refused. -/
@[simp] theorem tooLarge_iff (n : Nat) : tooLarge n = true ↔ 255 < n := by
  unfold tooLarge; exact decide_eq_true_iff

/-- `ack_match` (R95). -/
@[simp] theorem ackMatch_iff (b seq : Byte) : ackMatch b seq = true ↔ b = seq := by simp [ackMatch]

/-- `expired` (R99). -/
@[simp] theorem expired_iff (e t : Ticks) : expired e t = true ↔ t ≤ e + 1 := by
  unfold expired; exact decide_eq_true_iff

end Sys2Proof.Machine
end

