-- ==== Sys2Proof/Laws/Encoder.lean ====
section
/-! SUPPORT. The encoder: when it makes a frame, which, and how long the header is. -/

namespace Sys2Proof.Machine

/-- The magic goes out low byte first (R41). -/
@[simp] theorem lo8_magic : lo8 Config.magic = 0xEF#8 := by decide

@[simp] theorem hi8_magic : hi8 Config.magic = 0xBE#8 := by decide

/-- The header has `HDR_LEN` bytes (R61, R62). -/
@[simp] theorem headerBytes_length (v : Variant) (seq chan n : Byte) :
    (headerBytes v seq chan n).length = Config.hdrLen v := by cases v <;> rfl

/-- A payload of at most 255 bytes is framed (R82, R83). -/
theorem encodeFrame_of_le {p : List Byte} (h : p.length ≤ 255) (v : Variant) (seq chan : Byte) :
    encodeFrame v seq chan p = some (headerBytes v seq chan (lengthField p.length) ++ p) := by
  simp [encodeFrame, h]

/-- A longer payload is refused (R81). -/
theorem encodeFrame_of_gt {p : List Byte} (h : 255 < p.length) (v : Variant) (seq chan : Byte) :
    encodeFrame v seq chan p = none := by
  simp [encodeFrame, h]

/-- Everything the encoder can answer with a frame. -/
theorem encodeFrame_eq_some {v : Variant} {seq chan : Byte} {p f : List Byte} (h : encodeFrame v seq chan p = some f) :
    p.length ≤ 255 ∧ f = headerBytes v seq chan (lengthField p.length) ++ p := by
  by_cases hp : p.length ≤ 255
  · rw [encodeFrame_of_le hp] at h; exact ⟨hp, by simpa using h.symm⟩
  · rw [encodeFrame_of_gt (by omega)] at h; cases h

/-- The frame output of a payload that fits (R82, R83). -/
theorem frameOut_of_le {p : List Byte} (h : p.length ≤ 255) (v : Variant) (seq chan : Byte) :
    frameOut v seq chan p = headerBytes v seq chan (lengthField p.length) ++ p := by
  simp [frameOut, encodeFrame_of_le h]

/-- The frame output of a refused payload is empty (R81). -/
theorem frameOut_of_gt {p : List Byte} (h : 255 < p.length) (v : Variant) (seq chan : Byte) :
    frameOut v seq chan p = [] := by
  simp [frameOut, encodeFrame_of_gt h]

/-- In variant A the channel input is ignored (R82). -/
theorem encodeFrame_a_chan (seq chan chan' : Byte) (p : List Byte) :
    encodeFrame .a seq chan p = encodeFrame .a seq chan' p := rfl

end Sys2Proof.Machine
end

