-- ==== Sys2Proof/Laws/PerInstr.lean ====
section
/-! SUPPORT. Said per operation: the image of an operation begins with the pattern of its row in the opcode table. -/

namespace Sys2Proof.Laws.ImageFitsRow

/-- The first bytes of an image that a row's mask reaches, read as one little-endian integer (R65), under the mask. -/
def fits (n mask pattern : Nat) (i : Instr) : Prop := leNat ((encode i).take n) &&& mask = pattern

/-- The row's mask and pattern: WIRE rows R61 to R63, FSM rows the `STATE` code (R13, R76), ENC rows the variant bit (R72; GUARD
either), CTRL rows the strobe at 1 (R73). -/
def Statement : Instr → Prop
  | .frameA seq p => fits 2 0xFFFF 0xBEEF (.frameA seq p)
  | .frameB seq chan p => fits 2 0xFFFF 0xBEEF (.frameB seq chan p)
  | .ack s => fits 1 0x00 0x00 (.ack s)
  | .reset => fits 1 0b000 0b000 .reset
  | .start v c t => fits 1 0b111 0b000 (.start v c t)
  | .readChunk c => fits 1 0b111 0b001 (.readChunk c)
  | .readEof => fits 1 0b111 0b001 .readEof
  | .send => fits 1 0b111 0b010 .send
  | .sendTooLarge => fits 1 0b111 0b010 .sendTooLarge
  | .pollMatch b => fits 1 0b111 0b011 (.pollMatch b)
  | .pollMismatch b => fits 1 0b111 0b011 (.pollMismatch b)
  | .pollEmpty => fits 1 0b111 0b011 .pollEmpty
  | .pollTimeout => fits 1 0b111 0b011 .pollTimeout
  | .holdDone => fits 1 0b111 0b100 .holdDone
  | .holdFailed => fits 1 0b111 0b101 .holdFailed
  | .encA seq chan p => fits 1 1 0 (.encA seq chan p)
  | .encB seq chan p => fits 1 1 1 (.encB seq chan p)
  | .guard v n => fits 1 0 0 (.guard v n)
  | .seqClr => fits 1 1 1 .seqClr
  | .seqInc => fits 1 1 1 .seqInc
  | .ackCmp b => fits 1 1 1 (.ackCmp b)
  | .tmrClr => fits 1 1 1 .tmrClr
  | .tmrTick => fits 1 1 1 .tmrTick

theorem frameA (seq : Byte) (p : List Byte) : Statement (.frameA seq p) := by simp [Statement, fits, encode, leNat, Config.magic, lo8, hi8]
theorem frameB (seq chan : Byte) (p : List Byte) : Statement (.frameB seq chan p) := by simp [Statement, fits, encode, leNat, Config.magic, lo8, hi8]
theorem ack (s : Byte) : Statement (.ack s) := Nat.and_zero _
theorem reset : Statement .reset := rfl
theorem start (v : Variant) (c : Byte) (t : Ticks) : Statement (.start v c t) := by simp [Statement, fits, encode, leNat]
theorem readChunk (c : List Byte) : Statement (.readChunk c) := by simp [Statement, fits, encode, leNat]
theorem readEof : Statement .readEof := rfl
theorem send : Statement .send := rfl
theorem sendTooLarge : Statement .sendTooLarge := rfl
theorem pollMatch (b : Byte) : Statement (.pollMatch b) := by simp [Statement, fits, encode, leNat]
theorem pollMismatch (b : Byte) : Statement (.pollMismatch b) := by simp [Statement, fits, encode, leNat]
theorem pollEmpty : Statement .pollEmpty := rfl
theorem pollTimeout : Statement .pollTimeout := rfl
theorem holdDone : Statement .holdDone := rfl
theorem holdFailed : Statement .holdFailed := rfl
theorem encA (seq chan : Byte) (p : List Byte) : Statement (.encA seq chan p) := by simp [Statement, fits, encode, leNat]
theorem encB (seq chan : Byte) (p : List Byte) : Statement (.encB seq chan p) := by simp [Statement, fits, encode, leNat]
theorem guard (v : Variant) (n : Len9) : Statement (.guard v n) := Nat.and_zero _
theorem seqClr : Statement .seqClr := rfl
theorem seqInc : Statement .seqInc := rfl
theorem ackCmp (b : Byte) : Statement (.ackCmp b) := by simp [Statement, fits, encode, leNat]
theorem tmrClr : Statement .tmrClr := rfl
theorem tmrTick : Statement .tmrTick := rfl

end Sys2Proof.Laws.ImageFitsRow
end

