-- ==== Sys2Proof/Laws/State.lean ====
section
/-! SUPPORT. One lemma per field of State and update of it: what each named operation leaves in each field. -/

namespace Sys2Proof.Machine

/-! ### goto -/

@[simp] theorem State.goto_phase (s : State) (p : Phase) : (s.goto p).phase = p := rfl
@[simp] theorem State.goto_seq (s : State) (p : Phase) : (s.goto p).seq = s.seq := rfl
@[simp] theorem State.goto_variant (s : State) (p : Phase) : (s.goto p).variant = s.variant := rfl
@[simp] theorem State.goto_chan (s : State) (p : Phase) : (s.goto p).chan = s.chan := rfl
@[simp] theorem State.goto_tmo (s : State) (p : Phase) : (s.goto p).tmo = s.tmo := rfl
@[simp] theorem State.goto_elapsed (s : State) (p : Phase) : (s.goto p).elapsed = s.elapsed := rfl
@[simp] theorem State.goto_chunkBuf (s : State) (p : Phase) : (s.goto p).chunkBuf = s.chunkBuf := rfl
@[simp] theorem State.goto_chunkLen (s : State) (p : Phase) : (s.goto p).chunkLen = s.chunkLen := rfl
@[simp] theorem State.goto_errKind (s : State) (p : Phase) : (s.goto p).errKind = s.errKind := rfl
@[simp] theorem State.goto_errExpected (s : State) (p : Phase) : (s.goto p).errExpected = s.errExpected := rfl
@[simp] theorem State.goto_errActual (s : State) (p : Phase) : (s.goto p).errActual = s.errActual := rfl
@[simp] theorem State.goto_errElapsed (s : State) (p : Phase) : (s.goto p).errElapsed = s.errElapsed := rfl
@[simp] theorem State.goto_srcPos (s : State) (p : Phase) : (s.goto p).srcPos = s.srcPos := rfl
@[simp] theorem State.goto_rx (s : State) (p : Phase) : (s.goto p).rx = s.rx := rfl
@[simp] theorem State.goto_rxTaken (s : State) (p : Phase) : (s.goto p).rxTaken = s.rxTaken := rfl
@[simp] theorem State.goto_tx (s : State) (p : Phase) : (s.goto p).tx = s.tx := rfl
@[simp] theorem State.goto_inputs (s : State) (p : Phase) : (s.goto p).inputs = s.inputs := rfl
@[simp] theorem State.goto_outs (s : State) (p : Phase) : (s.goto p).outs = s.outs := rfl
@[simp] theorem State.goto_freeCount (s : State) (p : Phase) : (s.goto p).freeCount = s.freeCount := rfl

/-! ### clearSeq -/

@[simp] theorem State.clearSeq_phase (s : State) : s.clearSeq.phase = s.phase := rfl
@[simp] theorem State.clearSeq_seq (s : State) : s.clearSeq.seq = 0 := rfl
@[simp] theorem State.clearSeq_variant (s : State) : s.clearSeq.variant = s.variant := rfl
@[simp] theorem State.clearSeq_chan (s : State) : s.clearSeq.chan = s.chan := rfl
@[simp] theorem State.clearSeq_tmo (s : State) : s.clearSeq.tmo = s.tmo := rfl
@[simp] theorem State.clearSeq_elapsed (s : State) : s.clearSeq.elapsed = s.elapsed := rfl
@[simp] theorem State.clearSeq_chunkBuf (s : State) : s.clearSeq.chunkBuf = s.chunkBuf := rfl
@[simp] theorem State.clearSeq_chunkLen (s : State) : s.clearSeq.chunkLen = s.chunkLen := rfl
@[simp] theorem State.clearSeq_errKind (s : State) : s.clearSeq.errKind = s.errKind := rfl
@[simp] theorem State.clearSeq_errExpected (s : State) : s.clearSeq.errExpected = s.errExpected := rfl
@[simp] theorem State.clearSeq_errActual (s : State) : s.clearSeq.errActual = s.errActual := rfl
@[simp] theorem State.clearSeq_errElapsed (s : State) : s.clearSeq.errElapsed = s.errElapsed := rfl
@[simp] theorem State.clearSeq_srcPos (s : State) : s.clearSeq.srcPos = s.srcPos := rfl
@[simp] theorem State.clearSeq_rx (s : State) : s.clearSeq.rx = s.rx := rfl
@[simp] theorem State.clearSeq_rxTaken (s : State) : s.clearSeq.rxTaken = s.rxTaken := rfl
@[simp] theorem State.clearSeq_tx (s : State) : s.clearSeq.tx = s.tx := rfl
@[simp] theorem State.clearSeq_inputs (s : State) : s.clearSeq.inputs = s.inputs := rfl
@[simp] theorem State.clearSeq_outs (s : State) : s.clearSeq.outs = s.outs := rfl
@[simp] theorem State.clearSeq_freeCount (s : State) : s.clearSeq.freeCount = s.freeCount := rfl

/-! ### incSeq -/

@[simp] theorem State.incSeq_phase (s : State) : s.incSeq.phase = s.phase := rfl
@[simp] theorem State.incSeq_seq (s : State) : s.incSeq.seq = seqNext s.seq := rfl
@[simp] theorem State.incSeq_variant (s : State) : s.incSeq.variant = s.variant := rfl
@[simp] theorem State.incSeq_chan (s : State) : s.incSeq.chan = s.chan := rfl
@[simp] theorem State.incSeq_tmo (s : State) : s.incSeq.tmo = s.tmo := rfl
@[simp] theorem State.incSeq_elapsed (s : State) : s.incSeq.elapsed = s.elapsed := rfl
@[simp] theorem State.incSeq_chunkBuf (s : State) : s.incSeq.chunkBuf = s.chunkBuf := rfl
@[simp] theorem State.incSeq_chunkLen (s : State) : s.incSeq.chunkLen = s.chunkLen := rfl
@[simp] theorem State.incSeq_errKind (s : State) : s.incSeq.errKind = s.errKind := rfl
@[simp] theorem State.incSeq_errExpected (s : State) : s.incSeq.errExpected = s.errExpected := rfl
@[simp] theorem State.incSeq_errActual (s : State) : s.incSeq.errActual = s.errActual := rfl
@[simp] theorem State.incSeq_errElapsed (s : State) : s.incSeq.errElapsed = s.errElapsed := rfl
@[simp] theorem State.incSeq_srcPos (s : State) : s.incSeq.srcPos = s.srcPos := rfl
@[simp] theorem State.incSeq_rx (s : State) : s.incSeq.rx = s.rx := rfl
@[simp] theorem State.incSeq_rxTaken (s : State) : s.incSeq.rxTaken = s.rxTaken := rfl
@[simp] theorem State.incSeq_tx (s : State) : s.incSeq.tx = s.tx := rfl
@[simp] theorem State.incSeq_inputs (s : State) : s.incSeq.inputs = s.inputs := rfl
@[simp] theorem State.incSeq_outs (s : State) : s.incSeq.outs = s.outs := rfl
@[simp] theorem State.incSeq_freeCount (s : State) : s.incSeq.freeCount = s.freeCount := rfl

/-! ### clearTimer -/

@[simp] theorem State.clearTimer_phase (s : State) : s.clearTimer.phase = s.phase := rfl
@[simp] theorem State.clearTimer_seq (s : State) : s.clearTimer.seq = s.seq := rfl
@[simp] theorem State.clearTimer_variant (s : State) : s.clearTimer.variant = s.variant := rfl
@[simp] theorem State.clearTimer_chan (s : State) : s.clearTimer.chan = s.chan := rfl
@[simp] theorem State.clearTimer_tmo (s : State) : s.clearTimer.tmo = s.tmo := rfl
@[simp] theorem State.clearTimer_elapsed (s : State) : s.clearTimer.elapsed = 0 := rfl
@[simp] theorem State.clearTimer_chunkBuf (s : State) : s.clearTimer.chunkBuf = s.chunkBuf := rfl
@[simp] theorem State.clearTimer_chunkLen (s : State) : s.clearTimer.chunkLen = s.chunkLen := rfl
@[simp] theorem State.clearTimer_errKind (s : State) : s.clearTimer.errKind = s.errKind := rfl
@[simp] theorem State.clearTimer_errExpected (s : State) : s.clearTimer.errExpected = s.errExpected := rfl
@[simp] theorem State.clearTimer_errActual (s : State) : s.clearTimer.errActual = s.errActual := rfl
@[simp] theorem State.clearTimer_errElapsed (s : State) : s.clearTimer.errElapsed = s.errElapsed := rfl
@[simp] theorem State.clearTimer_srcPos (s : State) : s.clearTimer.srcPos = s.srcPos := rfl
@[simp] theorem State.clearTimer_rx (s : State) : s.clearTimer.rx = s.rx := rfl
@[simp] theorem State.clearTimer_rxTaken (s : State) : s.clearTimer.rxTaken = s.rxTaken := rfl
@[simp] theorem State.clearTimer_tx (s : State) : s.clearTimer.tx = s.tx := rfl
@[simp] theorem State.clearTimer_inputs (s : State) : s.clearTimer.inputs = s.inputs := rfl
@[simp] theorem State.clearTimer_outs (s : State) : s.clearTimer.outs = s.outs := rfl
@[simp] theorem State.clearTimer_freeCount (s : State) : s.clearTimer.freeCount = s.freeCount := rfl

/-! ### tickTimer -/

@[simp] theorem State.tickTimer_phase (s : State) : s.tickTimer.phase = s.phase := rfl
@[simp] theorem State.tickTimer_seq (s : State) : s.tickTimer.seq = s.seq := rfl
@[simp] theorem State.tickTimer_variant (s : State) : s.tickTimer.variant = s.variant := rfl
@[simp] theorem State.tickTimer_chan (s : State) : s.tickTimer.chan = s.chan := rfl
@[simp] theorem State.tickTimer_tmo (s : State) : s.tickTimer.tmo = s.tmo := rfl
@[simp] theorem State.tickTimer_elapsed (s : State) : s.tickTimer.elapsed = elapsedNext s.elapsed := rfl
@[simp] theorem State.tickTimer_chunkBuf (s : State) : s.tickTimer.chunkBuf = s.chunkBuf := rfl
@[simp] theorem State.tickTimer_chunkLen (s : State) : s.tickTimer.chunkLen = s.chunkLen := rfl
@[simp] theorem State.tickTimer_errKind (s : State) : s.tickTimer.errKind = s.errKind := rfl
@[simp] theorem State.tickTimer_errExpected (s : State) : s.tickTimer.errExpected = s.errExpected := rfl
@[simp] theorem State.tickTimer_errActual (s : State) : s.tickTimer.errActual = s.errActual := rfl
@[simp] theorem State.tickTimer_errElapsed (s : State) : s.tickTimer.errElapsed = s.errElapsed := rfl
@[simp] theorem State.tickTimer_srcPos (s : State) : s.tickTimer.srcPos = s.srcPos := rfl
@[simp] theorem State.tickTimer_rx (s : State) : s.tickTimer.rx = s.rx := rfl
@[simp] theorem State.tickTimer_rxTaken (s : State) : s.tickTimer.rxTaken = s.rxTaken := rfl
@[simp] theorem State.tickTimer_tx (s : State) : s.tickTimer.tx = s.tx := rfl
@[simp] theorem State.tickTimer_inputs (s : State) : s.tickTimer.inputs = s.inputs := rfl
@[simp] theorem State.tickTimer_outs (s : State) : s.tickTimer.outs = s.outs := rfl
@[simp] theorem State.tickTimer_freeCount (s : State) : s.tickTimer.freeCount = s.freeCount := rfl

/-! ### sampleConfig -/

@[simp] theorem State.sampleConfig_phase (s : State) (v : Variant) (c : Byte) (t : Ticks) : (s.sampleConfig v c t).phase = s.phase := rfl
@[simp] theorem State.sampleConfig_seq (s : State) (v : Variant) (c : Byte) (t : Ticks) : (s.sampleConfig v c t).seq = s.seq := rfl
@[simp] theorem State.sampleConfig_variant (s : State) (v : Variant) (c : Byte) (t : Ticks) : (s.sampleConfig v c t).variant = v := rfl
@[simp] theorem State.sampleConfig_chan (s : State) (v : Variant) (c : Byte) (t : Ticks) : (s.sampleConfig v c t).chan = c := rfl
@[simp] theorem State.sampleConfig_tmo (s : State) (v : Variant) (c : Byte) (t : Ticks) : (s.sampleConfig v c t).tmo = t := rfl
@[simp] theorem State.sampleConfig_elapsed (s : State) (v : Variant) (c : Byte) (t : Ticks) : (s.sampleConfig v c t).elapsed = s.elapsed := rfl
@[simp] theorem State.sampleConfig_chunkBuf (s : State) (v : Variant) (c : Byte) (t : Ticks) : (s.sampleConfig v c t).chunkBuf = s.chunkBuf := rfl
@[simp] theorem State.sampleConfig_chunkLen (s : State) (v : Variant) (c : Byte) (t : Ticks) : (s.sampleConfig v c t).chunkLen = s.chunkLen := rfl
@[simp] theorem State.sampleConfig_errKind (s : State) (v : Variant) (c : Byte) (t : Ticks) : (s.sampleConfig v c t).errKind = s.errKind := rfl
@[simp] theorem State.sampleConfig_errExpected (s : State) (v : Variant) (c : Byte) (t : Ticks) : (s.sampleConfig v c t).errExpected = s.errExpected := rfl
@[simp] theorem State.sampleConfig_errActual (s : State) (v : Variant) (c : Byte) (t : Ticks) : (s.sampleConfig v c t).errActual = s.errActual := rfl
@[simp] theorem State.sampleConfig_errElapsed (s : State) (v : Variant) (c : Byte) (t : Ticks) : (s.sampleConfig v c t).errElapsed = s.errElapsed := rfl
@[simp] theorem State.sampleConfig_srcPos (s : State) (v : Variant) (c : Byte) (t : Ticks) : (s.sampleConfig v c t).srcPos = s.srcPos := rfl
@[simp] theorem State.sampleConfig_rx (s : State) (v : Variant) (c : Byte) (t : Ticks) : (s.sampleConfig v c t).rx = s.rx := rfl
@[simp] theorem State.sampleConfig_rxTaken (s : State) (v : Variant) (c : Byte) (t : Ticks) : (s.sampleConfig v c t).rxTaken = s.rxTaken := rfl
@[simp] theorem State.sampleConfig_tx (s : State) (v : Variant) (c : Byte) (t : Ticks) : (s.sampleConfig v c t).tx = s.tx := rfl
@[simp] theorem State.sampleConfig_inputs (s : State) (v : Variant) (c : Byte) (t : Ticks) : (s.sampleConfig v c t).inputs = s.inputs := rfl
@[simp] theorem State.sampleConfig_outs (s : State) (v : Variant) (c : Byte) (t : Ticks) : (s.sampleConfig v c t).outs = s.outs := rfl
@[simp] theorem State.sampleConfig_freeCount (s : State) (v : Variant) (c : Byte) (t : Ticks) : (s.sampleConfig v c t).freeCount = s.freeCount := rfl

/-! ### loadChunk -/

@[simp] theorem State.loadChunk_phase (s : State) (c : List Byte) : (s.loadChunk c).phase = s.phase := rfl
@[simp] theorem State.loadChunk_seq (s : State) (c : List Byte) : (s.loadChunk c).seq = s.seq := rfl
@[simp] theorem State.loadChunk_variant (s : State) (c : List Byte) : (s.loadChunk c).variant = s.variant := rfl
@[simp] theorem State.loadChunk_chan (s : State) (c : List Byte) : (s.loadChunk c).chan = s.chan := rfl
@[simp] theorem State.loadChunk_tmo (s : State) (c : List Byte) : (s.loadChunk c).tmo = s.tmo := rfl
@[simp] theorem State.loadChunk_elapsed (s : State) (c : List Byte) : (s.loadChunk c).elapsed = s.elapsed := rfl
@[simp] theorem State.loadChunk_chunkBuf (s : State) (c : List Byte) : (s.loadChunk c).chunkBuf = overwriteHead c s.chunkBuf := rfl
@[simp] theorem State.loadChunk_chunkLen (s : State) (c : List Byte) : (s.loadChunk c).chunkLen = BitVec.ofNat 6 c.length := rfl
@[simp] theorem State.loadChunk_errKind (s : State) (c : List Byte) : (s.loadChunk c).errKind = s.errKind := rfl
@[simp] theorem State.loadChunk_errExpected (s : State) (c : List Byte) : (s.loadChunk c).errExpected = s.errExpected := rfl
@[simp] theorem State.loadChunk_errActual (s : State) (c : List Byte) : (s.loadChunk c).errActual = s.errActual := rfl
@[simp] theorem State.loadChunk_errElapsed (s : State) (c : List Byte) : (s.loadChunk c).errElapsed = s.errElapsed := rfl
@[simp] theorem State.loadChunk_srcPos (s : State) (c : List Byte) : (s.loadChunk c).srcPos = s.srcPos := rfl
@[simp] theorem State.loadChunk_rx (s : State) (c : List Byte) : (s.loadChunk c).rx = s.rx := rfl
@[simp] theorem State.loadChunk_rxTaken (s : State) (c : List Byte) : (s.loadChunk c).rxTaken = s.rxTaken := rfl
@[simp] theorem State.loadChunk_tx (s : State) (c : List Byte) : (s.loadChunk c).tx = s.tx := rfl
@[simp] theorem State.loadChunk_inputs (s : State) (c : List Byte) : (s.loadChunk c).inputs = s.inputs := rfl
@[simp] theorem State.loadChunk_outs (s : State) (c : List Byte) : (s.loadChunk c).outs = s.outs := rfl
@[simp] theorem State.loadChunk_freeCount (s : State) (c : List Byte) : (s.loadChunk c).freeCount = s.freeCount := rfl

/-! ### showOuts -/

@[simp] theorem State.showOuts_phase (s : State) (o : Outs) : (s.showOuts o).phase = s.phase := rfl
@[simp] theorem State.showOuts_seq (s : State) (o : Outs) : (s.showOuts o).seq = s.seq := rfl
@[simp] theorem State.showOuts_variant (s : State) (o : Outs) : (s.showOuts o).variant = s.variant := rfl
@[simp] theorem State.showOuts_chan (s : State) (o : Outs) : (s.showOuts o).chan = s.chan := rfl
@[simp] theorem State.showOuts_tmo (s : State) (o : Outs) : (s.showOuts o).tmo = s.tmo := rfl
@[simp] theorem State.showOuts_elapsed (s : State) (o : Outs) : (s.showOuts o).elapsed = s.elapsed := rfl
@[simp] theorem State.showOuts_chunkBuf (s : State) (o : Outs) : (s.showOuts o).chunkBuf = s.chunkBuf := rfl
@[simp] theorem State.showOuts_chunkLen (s : State) (o : Outs) : (s.showOuts o).chunkLen = s.chunkLen := rfl
@[simp] theorem State.showOuts_errKind (s : State) (o : Outs) : (s.showOuts o).errKind = s.errKind := rfl
@[simp] theorem State.showOuts_errExpected (s : State) (o : Outs) : (s.showOuts o).errExpected = s.errExpected := rfl
@[simp] theorem State.showOuts_errActual (s : State) (o : Outs) : (s.showOuts o).errActual = s.errActual := rfl
@[simp] theorem State.showOuts_errElapsed (s : State) (o : Outs) : (s.showOuts o).errElapsed = s.errElapsed := rfl
@[simp] theorem State.showOuts_srcPos (s : State) (o : Outs) : (s.showOuts o).srcPos = s.srcPos := rfl
@[simp] theorem State.showOuts_rx (s : State) (o : Outs) : (s.showOuts o).rx = s.rx := rfl
@[simp] theorem State.showOuts_rxTaken (s : State) (o : Outs) : (s.showOuts o).rxTaken = s.rxTaken := rfl
@[simp] theorem State.showOuts_tx (s : State) (o : Outs) : (s.showOuts o).tx = s.tx := rfl
@[simp] theorem State.showOuts_inputs (s : State) (o : Outs) : (s.showOuts o).inputs = s.inputs := rfl
@[simp] theorem State.showOuts_outs (s : State) (o : Outs) : (s.showOuts o).outs = o := rfl
@[simp] theorem State.showOuts_freeCount (s : State) (o : Outs) : (s.showOuts o).freeCount = s.freeCount := rfl

/-! ### srcTaken -/

@[simp] theorem State.srcTaken_phase (s : State) (c : List Byte) : (s.srcTaken c).phase = s.phase := rfl
@[simp] theorem State.srcTaken_seq (s : State) (c : List Byte) : (s.srcTaken c).seq = s.seq := rfl
@[simp] theorem State.srcTaken_variant (s : State) (c : List Byte) : (s.srcTaken c).variant = s.variant := rfl
@[simp] theorem State.srcTaken_chan (s : State) (c : List Byte) : (s.srcTaken c).chan = s.chan := rfl
@[simp] theorem State.srcTaken_tmo (s : State) (c : List Byte) : (s.srcTaken c).tmo = s.tmo := rfl
@[simp] theorem State.srcTaken_elapsed (s : State) (c : List Byte) : (s.srcTaken c).elapsed = s.elapsed := rfl
@[simp] theorem State.srcTaken_chunkBuf (s : State) (c : List Byte) : (s.srcTaken c).chunkBuf = s.chunkBuf := rfl
@[simp] theorem State.srcTaken_chunkLen (s : State) (c : List Byte) : (s.srcTaken c).chunkLen = s.chunkLen := rfl
@[simp] theorem State.srcTaken_errKind (s : State) (c : List Byte) : (s.srcTaken c).errKind = s.errKind := rfl
@[simp] theorem State.srcTaken_errExpected (s : State) (c : List Byte) : (s.srcTaken c).errExpected = s.errExpected := rfl
@[simp] theorem State.srcTaken_errActual (s : State) (c : List Byte) : (s.srcTaken c).errActual = s.errActual := rfl
@[simp] theorem State.srcTaken_errElapsed (s : State) (c : List Byte) : (s.srcTaken c).errElapsed = s.errElapsed := rfl
@[simp] theorem State.srcTaken_srcPos (s : State) (c : List Byte) : (s.srcTaken c).srcPos = s.srcPos + c.length := rfl
@[simp] theorem State.srcTaken_rx (s : State) (c : List Byte) : (s.srcTaken c).rx = s.rx := rfl
@[simp] theorem State.srcTaken_rxTaken (s : State) (c : List Byte) : (s.srcTaken c).rxTaken = s.rxTaken := rfl
@[simp] theorem State.srcTaken_tx (s : State) (c : List Byte) : (s.srcTaken c).tx = s.tx := rfl
@[simp] theorem State.srcTaken_inputs (s : State) (c : List Byte) : (s.srcTaken c).inputs = s.inputs := rfl
@[simp] theorem State.srcTaken_outs (s : State) (c : List Byte) : (s.srcTaken c).outs = s.outs := rfl
@[simp] theorem State.srcTaken_freeCount (s : State) (c : List Byte) : (s.srcTaken c).freeCount = s.freeCount := rfl

/-! ### txWrite -/

@[simp] theorem State.txWrite_phase (s : State) (x : List Byte) : (s.txWrite x).phase = s.phase := rfl
@[simp] theorem State.txWrite_seq (s : State) (x : List Byte) : (s.txWrite x).seq = s.seq := rfl
@[simp] theorem State.txWrite_variant (s : State) (x : List Byte) : (s.txWrite x).variant = s.variant := rfl
@[simp] theorem State.txWrite_chan (s : State) (x : List Byte) : (s.txWrite x).chan = s.chan := rfl
@[simp] theorem State.txWrite_tmo (s : State) (x : List Byte) : (s.txWrite x).tmo = s.tmo := rfl
@[simp] theorem State.txWrite_elapsed (s : State) (x : List Byte) : (s.txWrite x).elapsed = s.elapsed := rfl
@[simp] theorem State.txWrite_chunkBuf (s : State) (x : List Byte) : (s.txWrite x).chunkBuf = s.chunkBuf := rfl
@[simp] theorem State.txWrite_chunkLen (s : State) (x : List Byte) : (s.txWrite x).chunkLen = s.chunkLen := rfl
@[simp] theorem State.txWrite_errKind (s : State) (x : List Byte) : (s.txWrite x).errKind = s.errKind := rfl
@[simp] theorem State.txWrite_errExpected (s : State) (x : List Byte) : (s.txWrite x).errExpected = s.errExpected := rfl
@[simp] theorem State.txWrite_errActual (s : State) (x : List Byte) : (s.txWrite x).errActual = s.errActual := rfl
@[simp] theorem State.txWrite_errElapsed (s : State) (x : List Byte) : (s.txWrite x).errElapsed = s.errElapsed := rfl
@[simp] theorem State.txWrite_srcPos (s : State) (x : List Byte) : (s.txWrite x).srcPos = s.srcPos := rfl
@[simp] theorem State.txWrite_rx (s : State) (x : List Byte) : (s.txWrite x).rx = s.rx := rfl
@[simp] theorem State.txWrite_rxTaken (s : State) (x : List Byte) : (s.txWrite x).rxTaken = s.rxTaken := rfl
@[simp] theorem State.txWrite_tx (s : State) (x : List Byte) : (s.txWrite x).tx = s.tx ++ x := rfl
@[simp] theorem State.txWrite_inputs (s : State) (x : List Byte) : (s.txWrite x).inputs = s.inputs := rfl
@[simp] theorem State.txWrite_outs (s : State) (x : List Byte) : (s.txWrite x).outs = s.outs := rfl
@[simp] theorem State.txWrite_freeCount (s : State) (x : List Byte) : (s.txWrite x).freeCount = s.freeCount := rfl

/-! ### rxTake -/

@[simp] theorem State.rxTake_phase (s : State) : s.rxTake.phase = s.phase := rfl
@[simp] theorem State.rxTake_seq (s : State) : s.rxTake.seq = s.seq := rfl
@[simp] theorem State.rxTake_variant (s : State) : s.rxTake.variant = s.variant := rfl
@[simp] theorem State.rxTake_chan (s : State) : s.rxTake.chan = s.chan := rfl
@[simp] theorem State.rxTake_tmo (s : State) : s.rxTake.tmo = s.tmo := rfl
@[simp] theorem State.rxTake_elapsed (s : State) : s.rxTake.elapsed = s.elapsed := rfl
@[simp] theorem State.rxTake_chunkBuf (s : State) : s.rxTake.chunkBuf = s.chunkBuf := rfl
@[simp] theorem State.rxTake_chunkLen (s : State) : s.rxTake.chunkLen = s.chunkLen := rfl
@[simp] theorem State.rxTake_errKind (s : State) : s.rxTake.errKind = s.errKind := rfl
@[simp] theorem State.rxTake_errExpected (s : State) : s.rxTake.errExpected = s.errExpected := rfl
@[simp] theorem State.rxTake_errActual (s : State) : s.rxTake.errActual = s.errActual := rfl
@[simp] theorem State.rxTake_errElapsed (s : State) : s.rxTake.errElapsed = s.errElapsed := rfl
@[simp] theorem State.rxTake_srcPos (s : State) : s.rxTake.srcPos = s.srcPos := rfl
@[simp] theorem State.rxTake_rx (s : State) : s.rxTake.rx = (rxPoll s.rx).2 := rfl
@[simp] theorem State.rxTake_rxTaken (s : State) : s.rxTake.rxTaken = s.rxTaken + 1 := rfl
@[simp] theorem State.rxTake_tx (s : State) : s.rxTake.tx = s.tx := rfl
@[simp] theorem State.rxTake_inputs (s : State) : s.rxTake.inputs = s.inputs := rfl
@[simp] theorem State.rxTake_outs (s : State) : s.rxTake.outs = s.outs := rfl
@[simp] theorem State.rxTake_freeCount (s : State) : s.rxTake.freeCount = s.freeCount := rfl

/-! ### rxArrive -/

@[simp] theorem State.rxArrive_phase (s : State) (b : Byte) : (s.rxArrive b).phase = s.phase := rfl
@[simp] theorem State.rxArrive_seq (s : State) (b : Byte) : (s.rxArrive b).seq = s.seq := rfl
@[simp] theorem State.rxArrive_variant (s : State) (b : Byte) : (s.rxArrive b).variant = s.variant := rfl
@[simp] theorem State.rxArrive_chan (s : State) (b : Byte) : (s.rxArrive b).chan = s.chan := rfl
@[simp] theorem State.rxArrive_tmo (s : State) (b : Byte) : (s.rxArrive b).tmo = s.tmo := rfl
@[simp] theorem State.rxArrive_elapsed (s : State) (b : Byte) : (s.rxArrive b).elapsed = s.elapsed := rfl
@[simp] theorem State.rxArrive_chunkBuf (s : State) (b : Byte) : (s.rxArrive b).chunkBuf = s.chunkBuf := rfl
@[simp] theorem State.rxArrive_chunkLen (s : State) (b : Byte) : (s.rxArrive b).chunkLen = s.chunkLen := rfl
@[simp] theorem State.rxArrive_errKind (s : State) (b : Byte) : (s.rxArrive b).errKind = s.errKind := rfl
@[simp] theorem State.rxArrive_errExpected (s : State) (b : Byte) : (s.rxArrive b).errExpected = s.errExpected := rfl
@[simp] theorem State.rxArrive_errActual (s : State) (b : Byte) : (s.rxArrive b).errActual = s.errActual := rfl
@[simp] theorem State.rxArrive_errElapsed (s : State) (b : Byte) : (s.rxArrive b).errElapsed = s.errElapsed := rfl
@[simp] theorem State.rxArrive_srcPos (s : State) (b : Byte) : (s.rxArrive b).srcPos = s.srcPos := rfl
@[simp] theorem State.rxArrive_rx (s : State) (b : Byte) : (s.rxArrive b).rx = s.rx ++ [b] := rfl
@[simp] theorem State.rxArrive_rxTaken (s : State) (b : Byte) : (s.rxArrive b).rxTaken = s.rxTaken := rfl
@[simp] theorem State.rxArrive_tx (s : State) (b : Byte) : (s.rxArrive b).tx = s.tx := rfl
@[simp] theorem State.rxArrive_inputs (s : State) (b : Byte) : (s.rxArrive b).inputs = s.inputs := rfl
@[simp] theorem State.rxArrive_outs (s : State) (b : Byte) : (s.rxArrive b).outs = s.outs := rfl
@[simp] theorem State.rxArrive_freeCount (s : State) (b : Byte) : (s.rxArrive b).freeCount = s.freeCount := rfl

/-! ### withInputs -/

@[simp] theorem State.withInputs_phase (s : State) (l : List Input) : (s.withInputs l).phase = s.phase := rfl
@[simp] theorem State.withInputs_seq (s : State) (l : List Input) : (s.withInputs l).seq = s.seq := rfl
@[simp] theorem State.withInputs_variant (s : State) (l : List Input) : (s.withInputs l).variant = s.variant := rfl
@[simp] theorem State.withInputs_chan (s : State) (l : List Input) : (s.withInputs l).chan = s.chan := rfl
@[simp] theorem State.withInputs_tmo (s : State) (l : List Input) : (s.withInputs l).tmo = s.tmo := rfl
@[simp] theorem State.withInputs_elapsed (s : State) (l : List Input) : (s.withInputs l).elapsed = s.elapsed := rfl
@[simp] theorem State.withInputs_chunkBuf (s : State) (l : List Input) : (s.withInputs l).chunkBuf = s.chunkBuf := rfl
@[simp] theorem State.withInputs_chunkLen (s : State) (l : List Input) : (s.withInputs l).chunkLen = s.chunkLen := rfl
@[simp] theorem State.withInputs_errKind (s : State) (l : List Input) : (s.withInputs l).errKind = s.errKind := rfl
@[simp] theorem State.withInputs_errExpected (s : State) (l : List Input) : (s.withInputs l).errExpected = s.errExpected := rfl
@[simp] theorem State.withInputs_errActual (s : State) (l : List Input) : (s.withInputs l).errActual = s.errActual := rfl
@[simp] theorem State.withInputs_errElapsed (s : State) (l : List Input) : (s.withInputs l).errElapsed = s.errElapsed := rfl
@[simp] theorem State.withInputs_srcPos (s : State) (l : List Input) : (s.withInputs l).srcPos = s.srcPos := rfl
@[simp] theorem State.withInputs_rx (s : State) (l : List Input) : (s.withInputs l).rx = s.rx := rfl
@[simp] theorem State.withInputs_rxTaken (s : State) (l : List Input) : (s.withInputs l).rxTaken = s.rxTaken := rfl
@[simp] theorem State.withInputs_tx (s : State) (l : List Input) : (s.withInputs l).tx = s.tx := rfl
@[simp] theorem State.withInputs_inputs (s : State) (l : List Input) : (s.withInputs l).inputs = l := rfl
@[simp] theorem State.withInputs_outs (s : State) (l : List Input) : (s.withInputs l).outs = s.outs := rfl
@[simp] theorem State.withInputs_freeCount (s : State) (l : List Input) : (s.withInputs l).freeCount = s.freeCount := rfl

/-! ### resetBlock -/

@[simp] theorem State.resetBlock_phase (s : State) : s.resetBlock.phase = .idle := rfl
@[simp] theorem State.resetBlock_seq (s : State) : s.resetBlock.seq = 0 := rfl
@[simp] theorem State.resetBlock_variant (s : State) : s.resetBlock.variant = .a := rfl
@[simp] theorem State.resetBlock_chan (s : State) : s.resetBlock.chan = 0 := rfl
@[simp] theorem State.resetBlock_tmo (s : State) : s.resetBlock.tmo = timeoutDefaultTicks := rfl
@[simp] theorem State.resetBlock_elapsed (s : State) : s.resetBlock.elapsed = 0 := rfl
@[simp] theorem State.resetBlock_chunkBuf (s : State) : s.resetBlock.chunkBuf = freeChunkBuf s.freeCount := rfl
@[simp] theorem State.resetBlock_chunkLen (s : State) : s.resetBlock.chunkLen = 0 := rfl
@[simp] theorem State.resetBlock_errKind (s : State) : s.resetBlock.errKind = .none := rfl
@[simp] theorem State.resetBlock_errExpected (s : State) : s.resetBlock.errExpected = 0 := rfl
@[simp] theorem State.resetBlock_errActual (s : State) : s.resetBlock.errActual = 0 := rfl
@[simp] theorem State.resetBlock_errElapsed (s : State) : s.resetBlock.errElapsed = 0 := rfl
@[simp] theorem State.resetBlock_srcPos (s : State) : s.resetBlock.srcPos = s.srcPos := rfl
@[simp] theorem State.resetBlock_rx (s : State) : s.resetBlock.rx = s.rx := rfl
@[simp] theorem State.resetBlock_rxTaken (s : State) : s.resetBlock.rxTaken = s.rxTaken := rfl
@[simp] theorem State.resetBlock_tx (s : State) : s.resetBlock.tx = s.tx := rfl
@[simp] theorem State.resetBlock_inputs (s : State) : s.resetBlock.inputs = s.inputs := rfl
@[simp] theorem State.resetBlock_outs (s : State) : s.resetBlock.outs = s.outs := rfl
@[simp] theorem State.resetBlock_freeCount (s : State) : s.resetBlock.freeCount = s.freeCount + Config.chunkMax := rfl

/-! ### raise, TooLarge -/

@[simp] theorem State.raiseTooLarge_phase (s : State) : (s.raise BlockError.payloadTooLarge).phase = .failed := rfl
@[simp] theorem State.raiseTooLarge_seq (s : State) : (s.raise BlockError.payloadTooLarge).seq = s.seq := rfl
@[simp] theorem State.raiseTooLarge_variant (s : State) : (s.raise BlockError.payloadTooLarge).variant = s.variant := rfl
@[simp] theorem State.raiseTooLarge_chan (s : State) : (s.raise BlockError.payloadTooLarge).chan = s.chan := rfl
@[simp] theorem State.raiseTooLarge_tmo (s : State) : (s.raise BlockError.payloadTooLarge).tmo = s.tmo := rfl
@[simp] theorem State.raiseTooLarge_elapsed (s : State) : (s.raise BlockError.payloadTooLarge).elapsed = s.elapsed := rfl
@[simp] theorem State.raiseTooLarge_chunkBuf (s : State) : (s.raise BlockError.payloadTooLarge).chunkBuf = s.chunkBuf := rfl
@[simp] theorem State.raiseTooLarge_chunkLen (s : State) : (s.raise BlockError.payloadTooLarge).chunkLen = s.chunkLen := rfl
@[simp] theorem State.raiseTooLarge_errKind (s : State) : (s.raise BlockError.payloadTooLarge).errKind = .payloadTooLarge := rfl
@[simp] theorem State.raiseTooLarge_errExpected (s : State) : (s.raise BlockError.payloadTooLarge).errExpected = s.errExpected := rfl
@[simp] theorem State.raiseTooLarge_errActual (s : State) : (s.raise BlockError.payloadTooLarge).errActual = s.errActual := rfl
@[simp] theorem State.raiseTooLarge_errElapsed (s : State) : (s.raise BlockError.payloadTooLarge).errElapsed = s.errElapsed := rfl
@[simp] theorem State.raiseTooLarge_srcPos (s : State) : (s.raise BlockError.payloadTooLarge).srcPos = s.srcPos := rfl
@[simp] theorem State.raiseTooLarge_rx (s : State) : (s.raise BlockError.payloadTooLarge).rx = s.rx := rfl
@[simp] theorem State.raiseTooLarge_rxTaken (s : State) : (s.raise BlockError.payloadTooLarge).rxTaken = s.rxTaken := rfl
@[simp] theorem State.raiseTooLarge_tx (s : State) : (s.raise BlockError.payloadTooLarge).tx = s.tx := rfl
@[simp] theorem State.raiseTooLarge_inputs (s : State) : (s.raise BlockError.payloadTooLarge).inputs = s.inputs := rfl
@[simp] theorem State.raiseTooLarge_outs (s : State) : (s.raise BlockError.payloadTooLarge).outs = s.outs := rfl
@[simp] theorem State.raiseTooLarge_freeCount (s : State) : (s.raise BlockError.payloadTooLarge).freeCount = s.freeCount := rfl

/-! ### raise, Timeout -/

@[simp] theorem State.raiseTimeout_phase (s : State) (x : Ticks) : (s.raise (.rxTimeout x)).phase = .failed := rfl
@[simp] theorem State.raiseTimeout_seq (s : State) (x : Ticks) : (s.raise (.rxTimeout x)).seq = s.seq := rfl
@[simp] theorem State.raiseTimeout_variant (s : State) (x : Ticks) : (s.raise (.rxTimeout x)).variant = s.variant := rfl
@[simp] theorem State.raiseTimeout_chan (s : State) (x : Ticks) : (s.raise (.rxTimeout x)).chan = s.chan := rfl
@[simp] theorem State.raiseTimeout_tmo (s : State) (x : Ticks) : (s.raise (.rxTimeout x)).tmo = s.tmo := rfl
@[simp] theorem State.raiseTimeout_elapsed (s : State) (x : Ticks) : (s.raise (.rxTimeout x)).elapsed = s.elapsed := rfl
@[simp] theorem State.raiseTimeout_chunkBuf (s : State) (x : Ticks) : (s.raise (.rxTimeout x)).chunkBuf = s.chunkBuf := rfl
@[simp] theorem State.raiseTimeout_chunkLen (s : State) (x : Ticks) : (s.raise (.rxTimeout x)).chunkLen = s.chunkLen := rfl
@[simp] theorem State.raiseTimeout_errKind (s : State) (x : Ticks) : (s.raise (.rxTimeout x)).errKind = .rxTimeout := rfl
@[simp] theorem State.raiseTimeout_errExpected (s : State) (x : Ticks) : (s.raise (.rxTimeout x)).errExpected = s.errExpected := rfl
@[simp] theorem State.raiseTimeout_errActual (s : State) (x : Ticks) : (s.raise (.rxTimeout x)).errActual = s.errActual := rfl
@[simp] theorem State.raiseTimeout_errElapsed (s : State) (x : Ticks) : (s.raise (.rxTimeout x)).errElapsed = x := rfl
@[simp] theorem State.raiseTimeout_srcPos (s : State) (x : Ticks) : (s.raise (.rxTimeout x)).srcPos = s.srcPos := rfl
@[simp] theorem State.raiseTimeout_rx (s : State) (x : Ticks) : (s.raise (.rxTimeout x)).rx = s.rx := rfl
@[simp] theorem State.raiseTimeout_rxTaken (s : State) (x : Ticks) : (s.raise (.rxTimeout x)).rxTaken = s.rxTaken := rfl
@[simp] theorem State.raiseTimeout_tx (s : State) (x : Ticks) : (s.raise (.rxTimeout x)).tx = s.tx := rfl
@[simp] theorem State.raiseTimeout_inputs (s : State) (x : Ticks) : (s.raise (.rxTimeout x)).inputs = s.inputs := rfl
@[simp] theorem State.raiseTimeout_outs (s : State) (x : Ticks) : (s.raise (.rxTimeout x)).outs = s.outs := rfl
@[simp] theorem State.raiseTimeout_freeCount (s : State) (x : Ticks) : (s.raise (.rxTimeout x)).freeCount = s.freeCount := rfl

/-! ### raise, Mismatch -/

@[simp] theorem State.raiseMismatch_phase (s : State) (x y : Byte) : (s.raise (.sequenceMismatch x y)).phase = .failed := rfl
@[simp] theorem State.raiseMismatch_seq (s : State) (x y : Byte) : (s.raise (.sequenceMismatch x y)).seq = s.seq := rfl
@[simp] theorem State.raiseMismatch_variant (s : State) (x y : Byte) : (s.raise (.sequenceMismatch x y)).variant = s.variant := rfl
@[simp] theorem State.raiseMismatch_chan (s : State) (x y : Byte) : (s.raise (.sequenceMismatch x y)).chan = s.chan := rfl
@[simp] theorem State.raiseMismatch_tmo (s : State) (x y : Byte) : (s.raise (.sequenceMismatch x y)).tmo = s.tmo := rfl
@[simp] theorem State.raiseMismatch_elapsed (s : State) (x y : Byte) : (s.raise (.sequenceMismatch x y)).elapsed = s.elapsed := rfl
@[simp] theorem State.raiseMismatch_chunkBuf (s : State) (x y : Byte) : (s.raise (.sequenceMismatch x y)).chunkBuf = s.chunkBuf := rfl
@[simp] theorem State.raiseMismatch_chunkLen (s : State) (x y : Byte) : (s.raise (.sequenceMismatch x y)).chunkLen = s.chunkLen := rfl
@[simp] theorem State.raiseMismatch_errKind (s : State) (x y : Byte) : (s.raise (.sequenceMismatch x y)).errKind = .sequenceMismatch := rfl
@[simp] theorem State.raiseMismatch_errExpected (s : State) (x y : Byte) : (s.raise (.sequenceMismatch x y)).errExpected = x := rfl
@[simp] theorem State.raiseMismatch_errActual (s : State) (x y : Byte) : (s.raise (.sequenceMismatch x y)).errActual = y := rfl
@[simp] theorem State.raiseMismatch_errElapsed (s : State) (x y : Byte) : (s.raise (.sequenceMismatch x y)).errElapsed = s.errElapsed := rfl
@[simp] theorem State.raiseMismatch_srcPos (s : State) (x y : Byte) : (s.raise (.sequenceMismatch x y)).srcPos = s.srcPos := rfl
@[simp] theorem State.raiseMismatch_rx (s : State) (x y : Byte) : (s.raise (.sequenceMismatch x y)).rx = s.rx := rfl
@[simp] theorem State.raiseMismatch_rxTaken (s : State) (x y : Byte) : (s.raise (.sequenceMismatch x y)).rxTaken = s.rxTaken := rfl
@[simp] theorem State.raiseMismatch_tx (s : State) (x y : Byte) : (s.raise (.sequenceMismatch x y)).tx = s.tx := rfl
@[simp] theorem State.raiseMismatch_inputs (s : State) (x y : Byte) : (s.raise (.sequenceMismatch x y)).inputs = s.inputs := rfl
@[simp] theorem State.raiseMismatch_outs (s : State) (x y : Byte) : (s.raise (.sequenceMismatch x y)).outs = s.outs := rfl
@[simp] theorem State.raiseMismatch_freeCount (s : State) (x y : Byte) : (s.raise (.sequenceMismatch x y)).freeCount = s.freeCount := rfl

end Sys2Proof.Machine
end

