-- ==== Sys2Proof/Laws/Stream.lean ====
section
/-! SUPPORT. The stream and buffer operations: what a poll, a write into `CHUNK_BUF` and a read of its payload can do. -/

namespace Sys2Proof.Machine

/-- A poll leaves the queue without its head (R47). -/
@[simp] theorem rxPoll_rest (q : List Byte) : (rxPoll q).2 = q.tail := by cases q <;> rfl

/-- A poll returns the head of the queue, or none (R47). -/
@[simp] theorem rxPoll_byte (q : List Byte) : (rxPoll q).1 = q.head? := by cases q <;> rfl

/-- Writing the head of a buffer keeps its length, where the bytes fit (R19). -/
theorem overwriteHead_length {c buf : List Byte} (h : c.length ≤ buf.length) :
    (overwriteHead c buf).length = buf.length := by
  simp [overwriteHead]; omega

/-- The bytes written are the bytes read back (R19). -/
@[simp] theorem overwriteHead_take (c buf : List Byte) : (overwriteHead c buf).take c.length = c := by
  simp [overwriteHead]

/-- Bytes behind the chunk keep what they held (R19). -/
@[simp] theorem overwriteHead_drop (c buf : List Byte) : (overwriteHead c buf).drop c.length = buf.drop c.length := by
  simp [overwriteHead]

/-- The unspecified buffer has `CHUNK_BUF`'s 32 bytes (R150). -/
@[simp] theorem freeChunkBuf_length (k : Nat) : (freeChunkBuf k).length = Config.chunkMax := by
  simp [freeChunkBuf]

/-- A payload that is read is the first `CHUNK_LEN` bytes of the buffer, all of them there (R19). -/
theorem chunkPayload_eq_some {s : State} {p : List Byte} (h : s.chunkPayload = some p) :
    p = s.chunkBuf.take s.chunkLen.toNat ∧ p.length = s.chunkLen.toNat ∧ s.chunkLen.toNat ≤ s.chunkBuf.length := by
  unfold State.chunkPayload at h
  split at h
  · next hle => cases h; exact ⟨rfl, by simp [hle], hle⟩
  · cases h

/-- Where the buffer has the bytes, they are read (R19). -/
theorem chunkPayload_of_le {s : State} (h : s.chunkLen.toNat ≤ s.chunkBuf.length) :
    s.chunkPayload = some (s.chunkBuf.take s.chunkLen.toNat) := by
  simp [State.chunkPayload, h]

/-- Where the buffer has too few bytes, none are read (log 17). -/
theorem chunkPayload_of_lt {s : State} (h : s.chunkBuf.length < s.chunkLen.toNat) : s.chunkPayload = none := by
  simp [State.chunkPayload]; omega

/-- A chunk of at most 32 bytes has its exact length in `CHUNK_LEN` (R11). -/
theorem chunkLen_exact {c : List Byte} (h : c.length ≤ Config.chunkMax) : (BitVec.ofNat 6 c.length).toNat = c.length := by
  simp [Config.chunkMax] at *; omega

end Sys2Proof.Machine
end

