-- ==== Sys2Proof/Laws/Step.lean ====
section
/-! SUPPORT. What a step can do, said once: the outcome of each operation, the inversion of the step, and of a step under
inputs of the environment. Later proofs cite these instead of unfolding the selection. -/

namespace Sys2Proof.Machine

/-! ### Meanings -/

/-- READ.CHUNK of 1 to 32 bytes completes (R108). -/
theorem execReadChunk_of_wf {c : List Byte} (h1 : 1 ≤ c.length) (h2 : c.length ≤ 32) (s : State) :
    execReadChunk c s = .next (((s.srcTaken c).loadChunk c).goto .sending) := by
  have hne : eof c = false := by simp [eof]; rintro rfl; simp at h1
  rw [execReadChunk, if_neg (by simp [hne]), if_neg (by simp [Config.chunkMax, h2])]

/-- Everything READ.CHUNK can answer with a next state. -/
theorem execReadChunk_eq_next {c : List Byte} {s t : State} (h : execReadChunk c s = .next t) :
    1 ≤ c.length ∧ c.length ≤ 32 ∧ t = ((s.srcTaken c).loadChunk c).goto .sending := by
  unfold execReadChunk at h
  split at h
  · cases h
  · next hne =>
    split at h
    · cases h
    · next hle =>
      cases h
      refine ⟨?_, by simpa [Config.chunkMax] using hle, rfl⟩
      rcases c with _ | ⟨b, c⟩
      · simp [eof] at hne
      · simp

/-- Everything SEND can answer with a next state. -/
theorem execSend_eq_next {s t : State} (h : execSend s = .next t) :
    ∃ p, s.chunkPayload = some p ∧
      t = (s.txWrite (frameOut s.variant (seqNext s.seq) s.chan p)).incSeq.clearTimer.goto .awaitingAck := by
  unfold execSend at h
  split at h
  · next p hp => cases h; exact ⟨p, hp, rfl⟩
  · cases h

/-- Everything a frame put on TX can answer with a next state. -/
theorem putFrame_eq_next {v : Variant} {seq chan : Byte} {p : List Byte} {s t : State}
    (h : putFrame v seq chan p s = .next t) : p.length ≤ 255 ∧ t = s.txWrite (frameOut v seq chan p) := by
  unfold putFrame at h
  split at h
  · next f hf => cases h; obtain ⟨hp, rfl⟩ := encodeFrame_eq_some hf; exact ⟨hp, by rw [frameOut_of_le hp]⟩
  · cases h

/-! ### The step -/

/-- A step that answers runs the selected operation, or has nothing to do. -/
theorem step_eq_next {s t : State} (h : step s = .next t) :
    (∃ i, (fetch s).1 = .op i ∧ exec i (fetch s).2 = .next t) ∨ ((fetch s).1 = .ignored ∧ t = (fetch s).2) := by
  unfold step at h
  split at h
  · next i u hu => exact .inl ⟨i, by rw [hu], by rw [hu]; exact h⟩
  · next u hu => cases h; exact .inr ⟨by rw [hu], by rw [hu]⟩
  · cases h

/-- With something scheduled, the fetch takes it. -/
theorem fetch_cons {s : State} {x : Input} {l : List Input} (h : s.inputs = x :: l) :
    fetch s = (selectInput x s, s.withInputs l) := by
  unfold fetch; rw [h]

/-- With nothing scheduled, the fetch finds what the block does of its own. -/
theorem fetch_nil {s : State} (h : s.inputs = []) : fetch s = (selectNothing s, s) := by
  unfold fetch; rw [h]

/-- The step on a scheduled input. -/
theorem step_cons {s : State} {x : Input} {l : List Input} (h : s.inputs = x :: l) :
    step s = match selectInput x s with
      | .op i => exec i (s.withInputs l)
      | .ignored => .next (s.withInputs l)
      | .refuse r => .refused r := by
  unfold step; rw [fetch_cons h]; cases selectInput x s <;> rfl

/-- The step with nothing scheduled. -/
theorem step_nil {s : State} (h : s.inputs = []) :
    step s = match selectNothing s with
      | .op i => exec i s
      | .ignored => .next s
      | .refuse r => .refused r := by
  unfold step; rw [fetch_nil h]; cases selectNothing s <;> rfl

/-- The two spellings of `max(TMO, 1)`, in ticks and as a count, agree (R99, R100). -/
theorem budget_toNat (t : Ticks) : (budget t).toNat = pollBudget t := by
  unfold budget pollBudget
  split
  · next h => rw [h]; decide
  · next h =>
    have : t.toNat ≠ 0 := fun h' => h (BitVec.eq_of_toNat_eq h')
    omega

/-! ### A step of the hardware -/

/-- What a step under an input of the environment can do, in the state `u` whose schedule has moved on: the operation
performed, the condition under which it was selected (R70), and the next state. -/
inductive EnvStep (u : State) : Option Instr → State → Prop where
  | ignored : EnvStep u none u
  | reset : EnvStep u (some .reset) u.resetBlock
  | start (v : Variant) (c : Byte) (t : Ticks) (h : u.phase = .idle) :
      EnvStep u (some (.start v c t)) ((u.sampleConfig v c t).clearSeq.goto .reading)
  | readChunk (c : List Byte) (h : u.phase = .reading) (h1 : 1 ≤ c.length) (h2 : c.length ≤ 32) :
      EnvStep u (some (.readChunk c)) (((u.srcTaken c).loadChunk c).goto .sending)
  | readEof (h : u.phase = .reading) : EnvStep u (some .readEof) (u.goto .done)
  | send (p : List Byte) (h : u.phase = .sending) (hp : u.chunkPayload = some p) :
      EnvStep u (some .send)
        ((u.txWrite (frameOut u.variant (seqNext u.seq) u.chan p)).incSeq.clearTimer.goto .awaitingAck)
  | pollMatch (b : Byte) (h : u.phase = .awaitingAck) (hb : b = u.seq) :
      EnvStep u (some (.pollMatch b)) (u.rxTake.goto .reading)
  | pollMismatch (b : Byte) (h : u.phase = .awaitingAck) (hb : b ≠ u.seq) :
      EnvStep u (some (.pollMismatch b)) (u.rxTake.raise (.sequenceMismatch u.seq b))
  | pollEmpty (h : u.phase = .awaitingAck) (hx : expired u.elapsed u.tmo = false) :
      EnvStep u (some .pollEmpty) (u.tickTimer.goto .awaitingAck)
  | pollTimeout (h : u.phase = .awaitingAck) (hx : expired u.elapsed u.tmo = true) :
      EnvStep u (some .pollTimeout) (u.tickTimer.raise (.rxTimeout (elapsedNext u.elapsed)))
  | holdDone (h : u.phase = .done) : EnvStep u (some .holdDone) u
  | holdFailed (h : u.phase = .failed) : EnvStep u (some .holdFailed) u
  | arrive (b : Byte) : EnvStep u (some (.ack b)) (u.rxArrive b)

/-- A guard of more than 255 bytes never fires on a 6-bit length (R5, R113). -/
theorem chunkPlen_not_tooLarge (n : BitVec 6) : tooLarge (chunkPlen n).toNat = false := by
  have := n.isLt
  simp [chunkPlen, tooLarge, Config.payloadMax]; omega

/-- In Sending the event `send` selects SEND, never SEND.TOOLARGE (R110, R113). -/
theorem selectSend_sending {s : State} (h : s.phase = .sending) : selectSend s = .op .send := by
  simp [selectSend, h, chunkPlen_not_tooLarge]

/-- What a poll that returned a byte leads to. -/
theorem envStep_pollByte {u t : State} {b : Byte} {i : Instr} (h : u.phase = .awaitingAck)
    (hi : pollByte b u = .op i) (ht : exec i u = .next t) : EnvStep u (some i) t := by
  unfold pollByte at hi
  split at hi
  · next hb =>
    cases hi; cases ht
    exact .pollMatch b h (by simpa [ackMatch] using hb)
  · next hb =>
    cases hi; cases ht
    exact .pollMismatch b h (by simpa [ackMatch] using hb)

/-- What a poll that returned none leads to. -/
theorem envStep_pollNone {u t : State} {i : Instr} (h : u.phase = .awaitingAck)
    (hi : pollNone u = .op i) (ht : exec i u = .next t) : EnvStep u (some i) t := by
  unfold pollNone at hi
  split at hi
  · next hx => cases hi; cases ht; exact .pollTimeout h hx
  · next hx => cases hi; cases ht; exact .pollEmpty h (eq_false_of_ne_true hx)

/-- What the operation an event selects leads to. -/
theorem envStep_select {u t : State} {e : Event} {i : Instr} (hi : select e u = .op i) (ht : exec i u = .next t) :
    EnvStep u (some i) t := by
  cases hp : u.phase <;> cases e <;>
    simp only [select, selectStart, selectChunk, selectSend, selectAck, selectTick, hp, reduceCtorEq] at hi
  all_goals first
    | (cases hi; cases ht; first
        | exact .reset | exact .start _ _ _ hp | exact .holdDone hp | exact .holdFailed hp)
    | skip
  · next c =>
    split at hi
    · cases hi
    · split at hi
      · cases hi; cases ht; exact .readEof hp
      · cases hi
        obtain ⟨h1, h2, rfl⟩ := execReadChunk_eq_next ht
        exact .readChunk c hp h1 h2
  · rw [chunkPlen_not_tooLarge] at hi
    cases hi
    obtain ⟨p, hp', rfl⟩ := execSend_eq_next ht
    exact .send p hp hp'
  · split at hi
    · exact envStep_pollByte hp hi ht
    · split at hi
      · exact envStep_pollByte hp hi ht
      · cases hi
  · split at hi
    · exact envStep_pollByte hp hi ht
    · exact envStep_pollNone hp hi ht

/-- Selecting reads no schedule. -/
theorem select_withInputs (e : Event) (s : State) (l : List Input) : select e (s.withInputs l) = select e s := by
  cases e <;> rfl

/-- Everything a step under inputs of the environment can do (R121). -/
theorem envStep_of_step {s t : State} (he : s.envOnly = true) (h : step s = .next t) :
    EnvStep (s.withInputs s.inputs.tail) (nextOp s) t := by
  rcases hl : s.inputs with _ | ⟨x, l⟩
  · have hs : s.withInputs [] = s := by cases s; cases hl; rfl
    rw [List.tail_nil, hs]
    have hn : nextOp s = (selectNothing s).instr? := by unfold nextOp; rw [fetch_nil hl]
    rw [step_nil hl] at h
    rw [hn]
    by_cases hp : s.phase = .sending
    · have hsel : selectNothing s = .op .send := by simp [selectNothing, hp, selectSend_sending]
      rw [hsel] at h ⊢
      obtain ⟨p, hp', rfl⟩ := execSend_eq_next h
      exact .send p hp hp'
    · have hsel : selectNothing s = .ignored := by
        cases hq : s.phase <;> simp_all [selectNothing]
      rw [hsel] at h ⊢
      cases h
      exact .ignored
  · rw [List.tail_cons]
    have hn : nextOp s = (selectInput x s).instr? := by unfold nextOp; rw [fetch_cons hl]
    rw [step_cons hl] at h
    rw [hn]
    have hx : x.isEnv = true := by
      unfold State.envOnly at he; rw [hl] at he; simp at he; exact he.1
    cases x with
    | event e =>
      simp only [selectInput] at h ⊢
      split at h
      · next i hi => rw [hi]; exact envStep_select (by rw [select_withInputs]; exact hi) h
      · next hi => rw [hi]; cases h; exact .ignored
      · cases h
    | resetWith e => cases h; exact .reset
    | arrive b => cases h; exact .arrive b
    | bench p b => cases hx

end Sys2Proof.Machine
end

