-- ==== Sys2Proof/Laws/Run.lean ====
section
/-! SUPPORT. Runs: a run unrolled at its first and at its last step, with the operations it performed. -/

namespace Sys2Proof.Machine

/-- A run of any machine whose first step answers goes on from there. -/
theorem hostRun_of_next {M : Host.Core} {k : Nat} {s t : M.State} (h : M.step s = .next t) :
    M.run (k + 1) s = M.run k t := by simp only [Host.Core.run, h]

/-- A run of any machine whose first step faults stops there. -/
theorem hostRun_of_fault {M : Host.Core} {k : Nat} {s : M.State} {f : M.Fault} (h : M.step s = .fault f) :
    M.run (k + 1) s = .fault f := by simp only [Host.Core.run, h]

/-- A run of any machine whose first step is refused stops there. -/
theorem hostRun_of_refused {M : Host.Core} {k : Nat} {s : M.State} {r : M.Refusal} (h : M.step s = .refused r) :
    M.run (k + 1) s = .refused r := by simp only [Host.Core.run, h]

/-- A run whose first step answers goes on from there. -/
theorem run_of_next {k : Nat} {s t : State} (h : step s = .next t) :
    Host.Core.run core (k + 1) s = Host.Core.run core k t := hostRun_of_next (M := core) h

/-- A run whose first step faults stops there. -/
theorem run_of_fault {k : Nat} {s : State} {f : Fault} (h : step s = .fault f) :
    Host.Core.run core (k + 1) s = .fault f := hostRun_of_fault (M := core) h

/-- A run whose first step is refused stops there. -/
theorem run_of_refused {k : Nat} {s : State} {r : Refusal} (h : step s = .refused r) :
    Host.Core.run core (k + 1) s = .refused r := hostRun_of_refused (M := core) h

/-- A run of one step more that answers: its first step answers, and the rest runs from there. -/
theorem run_succ_eq_next {k : Nat} {s t : State} (h : Host.Core.run core (k + 1) s = .next t) :
    ∃ u : State, step s = .next u ∧ Host.Core.run core k u = .next t := by
  rcases hs : step s with u | f | r
  · exact ⟨u, rfl, by rw [run_of_next hs] at h; exact h⟩
  · rw [run_of_fault hs] at h; cases h
  · rw [run_of_refused hs] at h; cases h

/-- The operations of a run whose first step answers. -/
theorem opTrace_of_next {k : Nat} {s t : State} (h : step s = .next t) :
    opTrace (k + 1) s = (nextOp s).toList ++ opTrace k t := by
  rw [opTrace, h]

/-- A run split at its last step, with its operations. -/
theorem run_snoc {k : Nat} : ∀ {s t : State}, Host.Core.run core (k + 1) s = .next t →
    ∃ u : State, Host.Core.run core k s = .next u ∧ step u = .next t ∧
      opTrace (k + 1) s = opTrace k s ++ (nextOp u).toList := by
  induction k with
  | zero =>
    intro s t h
    obtain ⟨u, hu, hut⟩ := run_succ_eq_next h
    cases hut
    exact ⟨s, rfl, hu, by rw [opTrace_of_next hu]; simp [opTrace]⟩
  | succ k ih =>
    intro s t h
    obtain ⟨v, hv, hvt⟩ := run_succ_eq_next h
    obtain ⟨u, h1, h2, h3⟩ := ih hvt
    exact ⟨u, by rw [run_of_next hv]; exact h1, h2, by rw [opTrace_of_next hv, h3, opTrace_of_next hv, List.append_assoc]⟩

/-- Two runs, one after the other. -/
theorem run_add {j k : Nat} : ∀ {s u t : State}, Host.Core.run core j s = .next u → Host.Core.run core k u = .next t →
    Host.Core.run core (j + k) s = .next t := by
  induction j with
  | zero => intro s u t h1 h2; cases h1; rw [Nat.zero_add]; exact h2
  | succ j ih =>
    intro s u t h1 h2
    obtain ⟨v, hv, hvu⟩ := run_succ_eq_next h1
    rw [Nat.succ_add, run_of_next hv]
    exact ih hvu h2

/-- What holds of a state and no operations, and is kept by every step with the operations performed so far, holds after
every run: the induction on runs, said once. -/
theorem run_induction {P : State → List Instr → Prop}
    (hstep : ∀ u t l, P u l → step u = .next t → P t (l ++ (nextOp u).toList)) :
    ∀ {k : Nat} {s t : State}, P s [] → Host.Core.run core k s = .next t → P t (opTrace k s) := by
  intro k
  induction k with
  | zero => intro s t h0 h; cases h; exact h0
  | succ k ih =>
    intro s t h0 h
    obtain ⟨u, h1, h2, h3⟩ := run_snoc h
    rw [h3]
    exact hstep u t _ (ih h0 h1) h2

end Sys2Proof.Machine
end

