-- ==== Sys2Proof/Tests/Slice0.lean ====
section
/-! SUPPORT. The model's own tests. Expected values are 95_test_vectors.md's (named by their ids) or worked out by hand from
the rules; none is the model's own answer. The witnesses at the end show that the statements' hypotheses can be met. -/

namespace Sys2Proof.Tests

open Sys2Proof Sys2Proof.Machine

/-! ### Helpers -/

/-- A state in a given `STATE`, with the budget of most vectors. -/
def inPhase (p : Phase) : State := { State.reset with phase := p, tmo := 8 }

/-- The next state of an outcome, if there is one. -/
def next? (o : Host.Outcome State Fault Refusal) : Option State :=
  match o with
  | .next t => some t
  | .fault _ => none
  | .refused _ => none

/-- The name under which a step is refused, if it is. -/
def refusal? (o : Host.Outcome State Fault Refusal) : Option Refusal :=
  match o with
  | .next _ => none
  | .fault _ => none
  | .refused r => some r

/-- One event, stepped on. -/
def on (e : Event) (s : State) : Option State := next? (step (s.withInputs [.event e]))

/-- In Sending, variant A, with three bytes (M6). -/
def sendingA : State :=
  { inPhase .sending with chunkBuf := [0x00, 0x01, 0x02] ++ List.replicate 29 0xEE, chunkLen := 3, elapsed := 5 }

/-- In Sending, variant B, with one byte (M7). -/
def sendingB : State :=
  { inPhase .sending with
    seq := 0xFF, variant := .b, chan := 0x07, chunkBuf := [0xAA] ++ List.replicate 31 0xEE, chunkLen := 1 }

/-- In AwaitingAck for a frame `seq`, after `k` empty polls, with `q` in RX. -/
def awaiting (seq : Byte) (k : Ticks) (q : List Byte) : State :=
  { inPhase .awaitingAck with seq := seq, elapsed := k, rx := q }

/-- In Failed after the mismatch of M10. -/
def mismatched : State :=
  { inPhase .failed with seq := 0x01, errKind := .sequenceMismatch, errExpected := 0x01, errActual := 0x03 }

/-! ### Well-formedness: each check refuses its ill-formed term -/

set_option maxRecDepth 16000 in
theorem test_wf_frameA_256 : (Instr.frameA 0 (List.replicate 256 0)).wf = false := by decide
set_option maxRecDepth 16000 in
theorem test_wf_frameA_255 : (Instr.frameA 0 (List.replicate 255 0)).wf = true := by decide
set_option maxRecDepth 16000 in
theorem test_wf_frameB_256 : (Instr.frameB 0 0 (List.replicate 256 0)).wf = false := by decide
theorem test_wf_readChunk_0 : (Instr.readChunk []).wf = false := by decide
theorem test_wf_readChunk_33 : (Instr.readChunk (List.replicate 33 0)).wf = false := by decide
theorem test_wf_readChunk_32 : (Instr.readChunk (List.replicate 32 0)).wf = true := by decide
set_option maxRecDepth 16000 in
theorem test_wf_encA_512 : (Instr.encA 0 0 (List.replicate 512 0)).wf = false := by decide
set_option maxRecDepth 16000 in
theorem test_wf_encB_512 : (Instr.encB 0 0 (List.replicate 512 0)).wf = false := by decide

/-! ### Decoding: words written from the encodings of 30_encoding.md (wire) and log 4 (operation bytes) -/

/-- E2. -/
theorem test_decode_frameA : decode .txA [0xEF, 0xBE, 0xA5, 0x01, 0x03] = .ok (.frameA 0xA5 [0x03], []) := by decide

/-- E6. -/
theorem test_decode_frameB : decode .txB [0xEF, 0xBE, 0xA5, 0x3C, 0x01, 0x03] = .ok (.frameB 0xA5 0x3C [0x03], []) := by
  decide

/-- R67: the bytes of a frame of variant B read as variant A: a 5-byte payload. -/
theorem test_decode_variant_is_no_field :
    decode .txA [0xEF, 0xBE, 0x01, 0x05, 0x02, 0x11, 0x22, 0x33, 0x44] =
      .ok (.frameA 0x01 [0x02, 0x11, 0x22, 0x33, 0x44], []) := by decide

theorem test_decode_ack : decode .rx [0b10000000] = .ok (.ack 0x80, []) := by decide
theorem test_decode_badMagic : decode .txA [0xBE, 0xEF, 0x01, 0x00] = .error .badMagic := by decide
theorem test_decode_reset : decode .op [0b00100000] = .ok (.reset, []) := by decide

/-- M2's start. -/
theorem test_decode_start :
    decode .op [0b00000000, 0b1, 0x05, 0x08, 0x00, 0x00, 0x00] = .ok (.start .b 0x05 8, []) := by decide
theorem test_decode_start_ticks :
    decode .op [0b00000000, 0b0, 0x00, 0x78, 0x56, 0x34, 0x12] = .ok (.start .a 0x00 0x12345678, []) := by decide
theorem test_decode_readChunk : decode .op [0b00000001, 0x02, 0xAA, 0xBB] = .ok (.readChunk [0xAA, 0xBB], []) := by decide
theorem test_decode_readEof : decode .op [0b00000001, 0x00] = .ok (.readEof, []) := by decide
theorem test_decode_send : decode .op [0b00000010] = .ok (.send, []) := by decide
theorem test_decode_sendTooLarge : decode .op [0b00001010] = .ok (.sendTooLarge, []) := by decide
theorem test_decode_pollMatch : decode .op [0b00000011, 0x01] = .ok (.pollMatch 0x01, []) := by decide
theorem test_decode_pollMismatch : decode .op [0b00001011, 0x03] = .ok (.pollMismatch 0x03, []) := by decide
theorem test_decode_pollEmpty : decode .op [0b00010011] = .ok (.pollEmpty, []) := by decide
theorem test_decode_pollTimeout : decode .op [0b00011011] = .ok (.pollTimeout, []) := by decide
theorem test_decode_holdDone : decode .op [0b00000100] = .ok (.holdDone, []) := by decide
theorem test_decode_holdFailed : decode .op [0b00000101] = .ok (.holdFailed, []) := by decide
theorem test_decode_encA : decode .op [0b01000000, 0xA5, 0x3C, 0x01, 0x00, 0x03] = .ok (.encA 0xA5 0x3C [0x03], []) := by
  decide
theorem test_decode_encB : decode .op [0b01000001, 0xA5, 0x3C, 0x01, 0x00, 0x03] = .ok (.encB 0xA5 0x3C [0x03], []) := by
  decide
theorem test_decode_guard : decode .op [0b01001001, 0x2C, 0x01] = .ok (.guard .b 300, []) := by decide
theorem test_decode_seqClr : decode .op [0b10000001] = .ok (.seqClr, []) := by decide
theorem test_decode_seqInc : decode .op [0b10001001] = .ok (.seqInc, []) := by decide
theorem test_decode_ackCmp : decode .op [0b10010001, 0x03] = .ok (.ackCmp 0x03, []) := by decide
theorem test_decode_tmrClr : decode .op [0b10011001] = .ok (.tmrClr, []) := by decide
theorem test_decode_tmrTick : decode .op [0b10100001] = .ok (.tmrTick, []) := by decide

/-- R13, R71: the reserved `STATE` codes. -/
theorem test_decode_reserved_state :
    decode .op [0b00000110] = .error .reservedState ∧ decode .op [0b00000111] = .error .reservedState := by decide
theorem test_decode_strobe_low : decode .op [0b10000000] = .error .strobeLow := by decide

/-- No operation byte has two rows. -/
theorem test_opTable_disjoint :
    opTable.Pairwise fun r q => (r.pattern ^^^ q.pattern) &&& r.mask &&& q.mask ≠ 0 := by decide

/-- R65: the header of E3 as a table word, and of E1. -/
theorem test_tableWord_frameA : decodeTableWord 32 0x00A5BEEF = some (.frameA 0xA5 []) := by decide
theorem test_tableWord_send : decodeTableWord 8 0b010 = some .send := by decide

/-- E3, E7. -/
theorem test_headerInts : headerIntA 0xA5 0x20 = 0x20A5BEEF ∧ headerIntB 0xA5 0x3C 0x20 = 0x203CA5BEEF := by decide

/-- The reference decodes of 95_test_vectors.md 2.1. -/
theorem test_referenceDecode_ok :
    referenceDecode .a [0xEF, 0xBE, 0xA5, 0x01, 0x03] = .ok (0xA5, none, [0x03]) ∧
    referenceDecode .b [0xEF, 0xBE, 0xA5, 0x3C, 0x01, 0x03] = .ok (0xA5, some 0x3C, [0x03]) := by decide
theorem test_referenceDecode_error :
    referenceDecode .a [0xEF, 0xBE, 0xA5, 0x3C, 0x01, 0x03] = .error .badLength ∧
    referenceDecode .a [0xEE, 0xBE, 0x01, 0x00] = .error .badMagic ∧
    referenceDecode .b [0xEF, 0xBE, 0x01, 0x05] = .error .short := by decide

/-! ### The encoder -/

/-- E2, E13. -/
theorem test_encode_a :
    encodeFrame .a 0xA5 0x3C [0x03] = some [0xEF, 0xBE, 0xA5, 0x01, 0x03] ∧
    encodeFrame .a 0x00 0x3C [] = some [0xEF, 0xBE, 0x00, 0x00] := by decide

/-- E15: the channel is ignored. -/
theorem test_encode_a_ignores_chan :
    encodeFrame .a 0xFF 0x99 [0xEF, 0xBE, 0xEF] = some [0xEF, 0xBE, 0xFF, 0x03, 0xEF, 0xBE, 0xEF] := by decide

/-- E6, E14. -/
theorem test_encode_b :
    encodeFrame .b 0xA5 0x3C [0x03] = some [0xEF, 0xBE, 0xA5, 0x3C, 0x01, 0x03] ∧
    encodeFrame .b 0xFF 0x00 [0xEF, 0xBE] = some [0xEF, 0xBE, 0xFF, 0x00, 0x02, 0xEF, 0xBE] := by decide

set_option maxRecDepth 16000 in
/-- E4, E8: 255 bytes are accepted. -/
theorem test_encode_255 :
    (frameOut .a 0xA5 0x3C (List.replicate 255 0)).length = 259 ∧
    (frameOut .b 0xA5 0x3C (List.replicate 255 0)).length = 260 := by decide

set_option maxRecDepth 16000 in
/-- E9, E11: 256 bytes are refused. -/
theorem test_encode_256 :
    encodeFrame .a 0xA5 0x3C (List.replicate 256 0) = none ∧
    encodeFrame .b 0xA5 0x3C (List.replicate 256 0) = none := by decide

/-- E6, byte by byte. -/
theorem test_frameByte :
    (List.range 6).map (frameByte .b 0xA5 0x3C [0x03]) = [0xEF, 0xBE, 0xA5, 0x3C, 0x01, 0x03] ∧
    frameLast .b 0xA5 0x3C [0x03] 5 = true ∧ frameLast .b 0xA5 0x3C [0x03] 4 = false := by decide

theorem test_encA : (next? (exec (.encA 0xA5 0x3C [0x03]) (inPhase .idle))).map (fun t => (t.outs.frame, t.outs.flen)) =
    some ([0xEF, 0xBE, 0xA5, 0x01, 0x03], 5) := by decide
theorem test_encB : (next? (exec (.encB 0xA5 0x3C [0x03]) (inPhase .idle))).map (fun t => (t.outs.frame, t.outs.flen)) =
    some ([0xEF, 0xBE, 0xA5, 0x3C, 0x01, 0x03], 6) := by decide
theorem test_guard : ((next? (exec (.guard .a 255) (inPhase .idle))).map fun t => t.outs.tooLarge) = some false ∧
    ((next? (exec (.guard .b 256) (inPhase .idle))).map fun t => t.outs.tooLarge) = some true := by decide

/-! ### The datapath -/

/-- Q1, Q2, Q4. -/
theorem test_seqClr : ((next? (exec .seqClr { inPhase .idle with seq := 0x7F })).map State.seq) = some 0x00 := by decide
theorem test_seqInc : ((next? (exec .seqInc { inPhase .idle with seq := 0xFF })).map State.seq) = some 0x00 ∧
    ((next? (exec .seqInc { inPhase .idle with seq := 0x7F })).map State.seq) = some 0x80 := by decide

/-- A6: bit 7 counts. -/
theorem test_ackCmp :
    ((next? (exec (.ackCmp 0x00) { inPhase .awaitingAck with seq := 0x80 })).map fun t => t.outs.ackMatch) = some false ∧
    ((next? (exec (.ackCmp 0x80) { inPhase .awaitingAck with seq := 0x80 })).map fun t => t.outs.ackMatch) = some true := by
  decide
theorem test_tmrClr : ((next? (exec .tmrClr (awaiting 0x01 5 []))).map State.elapsed) = some 0 := by decide

/-- R98: 6 becomes 7, and 7 is not yet 8; T8: the top of the range. -/
theorem test_tmrTick : ((next? (exec .tmrTick (awaiting 0x01 6 []))).map fun t => (t.elapsed, t.outs.expired)) =
    some (7, false) := by decide
theorem test_expired_edges : expired 7 8 = true ∧ expired 6 8 = false ∧ expired 0 0 = true ∧ expired 0 1 = true ∧
    expired 0xFFFFFFFE 0xFFFFFFFF = true ∧ expired 0xFFFFFFFD 0xFFFFFFFF = false := by decide

/-- R102: 5 s at 666 ms are 8 ticks. -/
theorem test_budgetTicks : budgetTicks 5 1 666 1000 = 8 ∧ budgetTicks 5 1 1 1 = 5 := by decide

/-! ### The state machine, M1 to M19 -/

theorem test_M1_reset : ((on .reset mismatched).map fun t => (t.phase, t.seq, t.errKind, t.errExpected, t.errActual)) =
    some (.idle, 0x00, .none, 0x00, 0x00) := by decide
theorem test_M1_reset_streams :
    ((on .reset { mismatched with tx := [0xEF], rx := [0x07], srcPos := 32 }).map fun t => (t.tx, t.rx, t.srcPos)) =
    some ([0xEF], [0x07], 32) := by decide
theorem test_M2_start : ((on (.start .b 0x05 8) (inPhase .idle)).map fun t => (t.phase, t.variant, t.chan, t.tmo, t.seq)) =
    some (.reading, .b, 0x05, 8, 0x00) := by decide
theorem test_M3_start_zero : ((on (.start .a 0x00 0) (inPhase .idle)).map fun t => (t.phase, t.variant, t.tmo)) =
    some (.reading, .a, 0) := by decide
theorem test_M4_readChunk : ((on (.chunk [0x00, 0x01, 0x02]) (inPhase .reading)).map fun t =>
    (t.phase, t.chunkLen, t.chunkBuf.take 3, t.srcPos)) = some (.sending, 3, [0x00, 0x01, 0x02], 3) := by decide
theorem test_readChunk_32 : ((on (.chunk (List.replicate 32 0xAA)) (inPhase .reading)).map fun t =>
    (t.phase, t.chunkLen, t.chunkBuf.length)) = some (.sending, 32, 32) := by decide
theorem test_M5_readEof : ((on (.chunk []) { inPhase .reading with seq := 0x02 }).map fun t => (t.phase, t.seq, t.tx)) =
    some (.done, 0x02, []) := by decide
theorem test_M6_send : ((on .send sendingA).map fun t => (t.tx, t.phase, t.seq, t.elapsed)) =
    some ([0xEF, 0xBE, 0x01, 0x03, 0x00, 0x01, 0x02], .awaitingAck, 0x01, 0) := by decide
theorem test_M7_send_wraps : ((on .send sendingB).map fun t => (t.tx, t.phase, t.seq)) =
    some ([0xEF, 0xBE, 0x00, 0x07, 0x01, 0xAA], .awaitingAck, 0x00) := by decide
theorem test_M8_sendTooLarge : ((next? (exec .sendTooLarge { inPhase .sending with seq := 0x04 })).map fun t =>
    (t.tx, t.phase, t.seq, t.errKind)) = some ([], .failed, 0x05, .payloadTooLarge) := by decide
theorem test_M9_pollMatch : ((on (.ack 0x01) (awaiting 0x01 0 [0x01])).map fun t => (t.phase, t.seq, t.rx, t.rxTaken)) =
    some (.reading, 0x01, [], 1) := by decide

/-- A7: on what would have been the last poll. -/
theorem test_A7_last_poll : ((on (.ack 0x05) (awaiting 0x05 7 [0x05])).map fun t => (t.phase, t.elapsed, t.errKind)) =
    some (.reading, 7, .none) := by decide
theorem test_M10_pollMismatch : ((on (.ack 0x03) (awaiting 0x01 0 [0x03, 0x01])).map fun t =>
    (t.phase, t.errKind, t.errExpected, t.errActual, t.rx)) =
    some (.failed, .sequenceMismatch, 0x01, 0x03, [0x01]) := by decide
theorem test_A4_previous_id : ((on (.ack 0xFF) (awaiting 0x00 0 [0xFF])).map fun t => (t.phase, t.errExpected, t.errActual)) =
    some (.failed, 0x00, 0xFF) := by decide
theorem test_M11_pollEmpty : ((on .tick (awaiting 0x01 2 [])).map fun t => (t.phase, t.elapsed, t.errKind)) =
    some (.awaitingAck, 3, .none) := by decide
theorem test_M12_pollTimeout : ((on .tick (awaiting 0x01 7 [])).map fun t => (t.phase, t.elapsed, t.errKind, t.errElapsed)) =
    some (.failed, 8, .rxTimeout, 8) := by decide

/-- T5: the budget 0. -/
theorem test_T5_zero_budget : ((on .tick { awaiting 0x01 0 [] with tmo := 0 }).map fun t => (t.phase, t.errElapsed)) =
    some (.failed, 1) := by decide
theorem test_M13_holdDone : on (.start .a 0x00 8) (inPhase .done) = some (inPhase .done) := by decide
theorem test_M14_holdFailed : on .tick mismatched = some mismatched := by decide
theorem test_M15_start_ignored : on (.start .b 0x09 1) (inPhase .reading) = some (inPhase .reading) := by decide
theorem test_M16_tick_ignored : on .tick (inPhase .idle) = some (inPhase .idle) := by decide
theorem test_M17_idle :
    refusal? (step ((inPhase .idle).withInputs [.event (.ack 0x01)])) = some .ackNotPolled ∧
    refusal? (step ((inPhase .idle).withInputs [.event (.chunk [0x00])])) = some .chunkNotRequested ∧
    refusal? (step ((inPhase .idle).withInputs [.event .send])) = some .sendNotReady := by decide
theorem test_M18_awaiting :
    refusal? (step ((inPhase .awaitingAck).withInputs [.event (.chunk [0x00])])) = some .chunkNotRequested := by decide
theorem test_M19_chunk_33 :
    refusal? (step ((inPhase .reading).withInputs [.event (.chunk (List.replicate 33 0))])) = some .chunkTooLong := by decide

/-- The blank cells of R121's Done and Failed rows; 33 bytes (R159) are refused there too. -/
theorem test_terminal_blank_cells :
    refusal? (step ((inPhase .done).withInputs [.event (.chunk (List.replicate 33 0))])) = some .chunkNotRequested ∧
    refusal? (step ((inPhase .done).withInputs [.event .send])) = some .sendNotReady ∧
    refusal? (step (mismatched.withInputs [.event (.chunk [])])) = some .chunkNotRequested ∧
    refusal? (step (mismatched.withInputs [.event (.ack 0x01)])) = some .ackNotPolled := by decide

/-- P8: the stale byte is taken first, whatever the environment presents. -/
theorem test_P8_stale_byte : ((on .tick (awaiting 0x01 0 [0x07, 0x01])).map fun t => (t.phase, t.errActual, t.rx)) =
    some (.failed, 0x07, [0x01]) := by decide

/-- R46: a byte may arrive in any state. -/
theorem test_ack_arrives : ((next? (step ((inPhase .done).withInputs [.arrive 0x02]))).map fun t => (t.phase, t.rx)) =
    some (.done, [0x02]) := by decide

/-- Frames put on TX as wire units (log 8). -/
theorem test_frameA : ((next? (exec (.frameA 0x01 [0x05]) (inPhase .idle))).map State.tx) =
    some [0xEF, 0xBE, 0x01, 0x01, 0x05] := by decide
theorem test_frameB : ((next? (exec (.frameB 0x01 0x05 []) (inPhase .idle))).map State.tx) =
    some [0xEF, 0xBE, 0x01, 0x05, 0x00] := by decide

/-- A placed table word runs as the next step (log 5, log 6). -/
theorem test_withFetchWord :
    ((next? (step (State.reset.withFetchWord 32 0x00A5BEEF))).map State.tx) = some [0xEF, 0xBE, 0xA5, 0x00] ∧
    ((next? (step (State.reset.withFetchWord 8 0b001))).map State.phase) = some .done := by decide

/-- R43: 42 bytes are a chunk of 32 and a chunk of 10 (P1). -/
theorem test_fileChunks : (fileChunks (List.replicate 42 0x11)).map List.length = [32, 10] := by decide

/-- P2's replies: two empty polls, then the right byte, and the session goes on to the empty read. -/
theorem test_scripted_done : scriptedRounds 8 0x00 [[0x11]] [(2, some 0x01)] =
    [.event (.chunk [0x11]), .event .send, .event .tick, .event .tick, .arrive 0x01, .event (.ack 0x01),
     .event (.chunk [])] := by decide

/-- P3: a mismatch is the end, whatever the file and the script still hold. -/
theorem test_scripted_mismatch : scriptedRounds 8 0x00 [[0x11], [0x22]] [(0, some 0x03), (0, some 0x02)] =
    [.event (.chunk [0x11]), .event .send, .arrive 0x03, .event (.ack 0x03)] := by decide

/-- P4: budget 3, silence in round 2; a byte on the fourth poll is as good as silence. -/
theorem test_scripted_timeout :
    scriptedRounds 3 0x01 [[0x11], [0x22]] [(0, none), (0, some 0x03)] =
      .event (.chunk [0x11]) :: .event .send :: ticks 3 ∧
    scriptedRounds 3 0x01 [[0x11], [0x22]] [(3, some 0x02), (0, some 0x03)] =
      .event (.chunk [0x11]) :: .event .send :: ticks 3 ∧
    scriptedRounds 0 0x01 [[0x11]] [(0, none)] = .event (.chunk [0x11]) :: .event .send :: ticks 1 := by decide

/-! ### Witnesses: states and operands that meet the statements' hypotheses together, clause by clause -/

/-- The states used below meet the invariants of R37. -/
theorem inv_inPhase_idle : BlockInv (inPhase .idle) := by constructor <;> decide
theorem inv_inPhase_reading : BlockInv (inPhase .reading) := by constructor <;> decide
theorem inv_sendingA : BlockInv sendingA := by constructor <;> decide
theorem inv_awaiting : BlockInv (awaiting 0x01 7 []) := by constructor <;> decide
theorem inv_awaiting_zero : BlockInv { awaiting 0x01 0 [] with tmo := 0 } := by constructor <;> decide
theorem inv_mismatched : BlockInv mismatched := by constructor <;> decide
theorem inv_inPhase_done : BlockInv (inPhase .done) := by constructor <;> decide

theorem witness_ResetWinsOverEveryEvent :
    ((inPhase .sending).withInputs [.event .reset]).inputs = [.event .reset] ∧
    (mismatched.withInputs [.resetWith .tick]).inputs = [.resetWith .tick] := ⟨rfl, rfl⟩
theorem witness_StartSamplesConfigurationAndClearsSeq : (inPhase .idle).phase = .idle := rfl
theorem witness_ReadChunkLoadsTheBuffer : (inPhase .reading).phase = .reading ∧
    1 ≤ ([0xAA] : List Byte).length ∧ ([0xAA] : List Byte).length ≤ 32 ∧
    1 ≤ (List.replicate 32 (0xAA : Byte)).length ∧ (List.replicate 32 (0xAA : Byte)).length ≤ 32 := by decide
theorem witness_ReadEofEndsTheSessionInDone : (inPhase .reading).phase = .reading := rfl
theorem witness_ExcludedLengthsAreRefused : (inPhase .reading).phase = .reading ∧
    32 < (List.replicate 33 (0 : Byte)).length ∧ 255 < (List.replicate 256 (0 : Byte)).length := by
  rw [List.length_replicate, List.length_replicate]; decide
theorem witness_SourceReadsTheFileInChunks : 2 ≤ ([0x11, 0x22] : List Byte).length ∧
    [0x11, 0x22] ∈ fileChunks [0x11, 0x22] ∧
    List.replicate 32 0x11 ∈ (fileChunks (List.replicate 33 (0x11 : Byte))).dropLast := by decide
theorem witness_SendWritesOneWholeFrame : sendingA.phase = .sending ∧
    sendingA.chunkLen.toNat ≤ sendingA.chunkBuf.length ∧
    ({ sendingB with chunkLen := 32 } : State).chunkLen.toNat ≤ sendingB.chunkBuf.length := by decide
theorem witness_SendBeyondTheBufferFaults :
    ({ sendingA with chunkLen := 33 } : State).chunkBuf.length < ({ sendingA with chunkLen := 33 } : State).chunkLen.toNat := by
  decide
theorem witness_TxDataIsTheFrameSendHandsOver : sendingA.phase = .sending ∧ ∃ t, exec .send sendingA = .next t :=
  ⟨rfl, _, rfl⟩
theorem witness_SequenceIdCountsModulo256 : (∃ t, exec .send sendingB = .next t) ∧
    (∃ t, exec .sendTooLarge sendingB = .next t) ∧ (∃ t, exec .seqInc sendingB = .next t) :=
  ⟨⟨_, rfl⟩, ⟨_, rfl⟩, ⟨_, rfl⟩⟩
theorem witness_PollMatchContinuesTheLoop : (awaiting 0x00 0 [0x00, 0x07]).phase = .awaitingAck ∧
    (awaiting 0x00 0 [0x00, 0x07]).rx.head? = some 0x00 ∧ 0x00 = (awaiting 0x00 0 [0x00, 0x07]).seq ∧
    (awaiting 0xFF 0 []).rx = [] ∧ 0xFF = (awaiting 0xFF 0 []).seq := by decide
theorem witness_PollMismatchRecordsExpectedAndActual : (awaiting 0x80 0 [0x00]).phase = .awaitingAck ∧
    (awaiting 0x80 0 [0x00]).rx.head? = some 0x00 ∧ 0x00 ≠ (awaiting 0x80 0 [0x00]).seq ∧
    (awaiting 0x00 0 []).rx = [] ∧ 0xFF ≠ (awaiting 0x00 0 []).seq := by decide
theorem witness_RaiseWritesTheRecordAndNothingElse : BlockInv (awaiting 0x01 7 []) ∧
    (awaiting 0x01 7 []).phase ≠ .failed := ⟨inv_awaiting, by decide⟩
theorem witness_PollEmptyCountsOneTick : (awaiting 0x01 6 []).phase = .awaitingAck ∧ (awaiting 0x01 6 []).rx = [] ∧
    (awaiting 0x01 6 []).elapsed + 1 < (awaiting 0x01 6 []).tmo := by decide
theorem witness_PollTimeoutRecordsElapsed : (awaiting 0x01 7 []).phase = .awaitingAck ∧ (awaiting 0x01 7 []).rx = [] ∧
    (awaiting 0x01 7 []).tmo ≤ (awaiting 0x01 7 []).elapsed + 1 := by decide
theorem witness_ZeroBudgetBehavesAsOne : BlockInv { awaiting 0x01 0 [] with tmo := 0 } ∧
    ({ awaiting 0x01 0 [] with tmo := 0 } : State).phase = .awaitingAck ∧
    ({ awaiting 0x01 0 [] with tmo := 0 } : State).tmo = 0 ∧ ({ awaiting 0x01 0 [] with tmo := 0 } : State).rx = [] :=
  ⟨inv_awaiting_zero, rfl, rfl, rfl⟩
theorem witness_WaitingByteIsTakenWhateverItIs :
    ((awaiting 0x01 7 [0x07]).withInputs [.event .tick]).phase = .awaitingAck ∧
    ((awaiting 0x01 7 [0x07]).withInputs [.event .tick]).rx = [0x07] ∧
    ((awaiting 0x01 7 [0x07]).withInputs [.event .tick]).inputs = [.event .tick] ∧
    ((awaiting 0x07 7 [0x07]).withInputs [.event (.ack 0x07)]).inputs = [.event (.ack 0x07)] := by decide
theorem witness_SilentRoundTimesOutAfterExactlyItsBudget :
    ((awaiting 0x01 0 []).withInputs (ticks 8)).phase = .awaitingAck ∧
    ((awaiting 0x01 0 []).withInputs (ticks 8)).elapsed = 0 ∧ ((awaiting 0x01 0 []).withInputs (ticks 8)).rx = [] ∧
    ((awaiting 0x01 0 []).withInputs (ticks 8)).inputs =
      ticks (budget ((awaiting 0x01 0 []).withInputs (ticks 8)).tmo).toNat ++ [] := by decide
theorem witness_TerminalStatesHold : (inPhase .done).phase = .done ∧ mismatched.phase = .failed := by decide
theorem witness_StrayStartAndTickChangeNothing : (inPhase .reading).phase ≠ .idle ∧
    ((inPhase .reading).withInputs [.event (.start .b 0x09 1)]).inputs = [.event (.start .b 0x09 1)] ∧
    (inPhase .idle).phase ≠ .awaitingAck ∧ ((inPhase .idle).withInputs [.event .tick]).inputs = [.event .tick] := by decide
theorem witness_StepAnswersExactlyPresentableEvents :
    BlockInv ((inPhase .idle).withInputs [.event .tick]) ∧
    presentable .tick ((inPhase .idle).withInputs [.event .tick]) = true ∧
    presentable .send ((inPhase .idle).withInputs [.event .send]) = false ∧
    presentable (.chunk []) (inPhase .done) = false ∧ presentable (.ack 0x01) mismatched = false ∧
    presentable (.chunk (List.replicate 32 0)) (inPhase .reading) = true ∧
    presentable (.chunk (List.replicate 33 0)) (inPhase .reading) = false := by
  refine ⟨?_, by decide, by decide, by decide, by decide, by decide, by decide⟩
  constructor <;> decide
theorem witness_TransitionTable :
    (∃ t, step ((inPhase .idle).withInputs [.event (.start .a 0 8)]) = .next t) ∧
    (∃ t, step ((inPhase .reading).withInputs [.event (.chunk [0x00])]) = .next t) ∧
    (∃ t, step (sendingA.withInputs [.event .send]) = .next t) ∧
    (∃ t, step ((awaiting 0x01 0 [0x01]).withInputs [.event (.ack 0x01)]) = .next t) ∧
    (∃ t, step ((awaiting 0x01 7 []).withInputs [.event .tick]) = .next t) ∧
    (∃ t, step (mismatched.withInputs [.event .reset]) = .next t) :=
  ⟨⟨_, rfl⟩, ⟨_, rfl⟩, ⟨_, rfl⟩, ⟨_, rfl⟩, ⟨_, rfl⟩, ⟨_, rfl⟩⟩
theorem witness_OnlyResetLeavesATerminalState :
    (mismatched.withInputs [.arrive 0x01]).envOnly = true ∧ (mismatched.withInputs [.arrive 0x01]).phase = .failed ∧
    (∃ t, step (mismatched.withInputs [.arrive 0x01]) = .next t) ∧
    nextOp (mismatched.withInputs [.arrive 0x01]) ≠ some .reset ∧
    (∃ t, step ((inPhase .done).withInputs [.event .tick]) = .next t) ∧
    nextOp ((inPhase .done).withInputs [.event .tick]) ≠ some .reset :=
  ⟨by decide, rfl, ⟨_, rfl⟩, by decide, ⟨_, rfl⟩, by decide⟩
theorem witness_OnlyResetAbandonsASession :
    ((inPhase .reading).withInputs [.resetWith .tick]).envOnly = true ∧ (inPhase .reading).phase ≠ .idle ∧
    ∃ t, step ((inPhase .reading).withInputs [.resetWith .tick]) = .next t ∧ t.phase = .idle :=
  ⟨by decide, by decide, _, rfl, rfl⟩
theorem witness_RegistersAreWrittenOnlyByTheirOperations :
    (∃ t, exec (.pollMismatch 0x03) (awaiting 0x01 0 [0x03]) = .next t) ∧ Reg.seq ∉ mayWrite (.pollMismatch 0x03) :=
  ⟨⟨_, rfl⟩, by decide⟩
theorem witness_StreamsAreReachedOnlyByTheirOperations : (sendingA.withInputs [.event .send]).envOnly = true ∧
    ∃ t, step (sendingA.withInputs [.event .send]) = .next t := ⟨by decide, _, rfl⟩

/-- For FrameLengthIsHeaderPlusPayload, ByteSerialViewAgreesWithTheFrame, HeaderIntegersMatchTheTable and
ReferenceDecodeAcceptsExactlyTheFrames (its three errors: test_referenceDecode_error): frames without payload, in both variants; test_encode_255 shows the other end. -/
theorem witness_frames : (∃ f, encodeFrame .a 0xFF 0x00 [] = some f) ∧ (∃ f, encodeFrame .b 0x00 0xFF [0x03] = some f) ∧
    (∃ f, encodeFrame .b 0x00 0xFF (List.replicate 255 0x03) = some f) :=
  ⟨⟨_, rfl⟩, ⟨_, rfl⟩, ⟨_, encodeFrame_of_le List.length_replicate.le _ _ _⟩⟩
theorem witness_ReferenceDecodeRecoversTheInputs : ([] : List Byte).length ≤ 255 ∧
    (List.replicate 255 (0 : Byte)).length ≤ 255 ∧
    encodeFrame .b 0x01 0x05 [0x03] = some [0xEF, 0xBE, 0x01, 0x05, 0x01, 0x03] := by
  refine ⟨by decide, List.length_replicate.le, by decide⟩
theorem witness_WireUnitsGoToTheirStreams : ([] : List Byte).length ≤ 255 ∧
    (List.replicate 255 (0 : Byte)).length ≤ 255 := ⟨by decide, List.length_replicate.le⟩
theorem witness_DecodeOfEncodeIsTheOperation : (Instr.readChunk [0xAA]).wf = true ∧
    (Instr.start .b 0xFF 0xFFFFFFFF).wf = true ∧ (Instr.guard .b 511).wf = true := by decide
theorem witness_DecodedOperationsAreWellFormed : ∃ r, decode .op [0x01, 0x01, 0xAA] = .ok r := ⟨_, rfl⟩
theorem witness_StepRunsTheSelectedOperation :
    select (.ack 0x01) (awaiting 0x01 0 [0x01]) = .op (.pollMatch 0x01) ∧ select .tick (inPhase .idle) = .ignored ∧
    select .send sendingA = .op .send ∧ sendingA.inputs = [] ∧ (inPhase .idle).phase ≠ .sending := by decide
theorem witness_StepRunsTheDecodedOperation : decode .op [0x81] = .ok (.seqClr, []) ∧
    decodeTableWord 40 0x003CA5BEEF = some (.frameB 0xA5 0x3C []) := by decide
theorem witness_EveryStepKeepsTheInvariant : sendingA.envOnly = true ∧ BlockInv sendingA ∧ ∃ t, step sendingA = .next t :=
  ⟨rfl, inv_sendingA, _, rfl⟩
theorem witness_NoHardwareStepFaults : sendingA.envOnly = true ∧ BlockInv sendingA := ⟨rfl, inv_sendingA⟩

/-- A schedule from Reading: one round acknowledged, then the end of the file. -/
def toDone : State := (inPhase .reading).withInputs (round [0x11] 0x01 ++ [.event (.chunk [])])

/-- A schedule from Reading: one round, answered wrongly. -/
def toFailed : State := (inPhase .reading).withInputs (round [0x11] 0x03)

theorem inv_toDone : BlockInv toDone := by constructor <;> decide
theorem inv_toFailed : BlockInv toFailed := by constructor <;> decide
theorem witness_SessionSendsEachChunkOnceInOrder :
    (BlockInv toDone ∧ toDone.envOnly = true ∧ toDone.noReset = true ∧ toDone.phase = .reading ∧ toDone.seq = 0 ∧
      ∃ t : State, Host.Core.run core 5 toDone = .next t ∧ t.phase = .done) ∧
    (BlockInv toFailed ∧ toFailed.envOnly = true ∧ toFailed.noReset = true ∧ toFailed.phase = .reading ∧
      toFailed.seq = 0 ∧ ∃ t : State, Host.Core.run core 4 toFailed = .next t ∧ t.phase = .failed) :=
  ⟨⟨inv_toDone, by decide, by decide, rfl, rfl, _, rfl, rfl⟩, ⟨inv_toFailed, by decide, by decide, rfl, rfl, _, rfl, rfl⟩⟩
theorem witness_SeqIsTheNumberOfSendsModulo256 : toDone.envOnly = true ∧ toDone.noReset = true ∧ toDone.phase ≠ .idle ∧
    ∃ t : State, Host.Core.run core 5 toDone = .next t := ⟨by decide, by decide, by decide, _, rfl⟩
theorem witness_ConfigurationIsFixedForTheSession : toFailed.envOnly = true ∧ toFailed.noReset = true ∧
    toFailed.phase ≠ .idle ∧ ∃ t : State, Host.Core.run core 4 toFailed = .next t :=
  ⟨by decide, by decide, by decide, _, rfl⟩
theorem witness_BytesTakenAreThePollsThatGotOne : BlockInv toFailed ∧ toFailed.envOnly = true ∧ toFailed.noReset = true ∧
    toFailed.phase = .reading ∧ ∃ t : State, Host.Core.run core 4 toFailed = .next t :=
  ⟨inv_toFailed, by decide, by decide, rfl, _, rfl⟩

/-- Before the SEND, before the poll and before the end of the file of `toDone`. -/
theorem witness_LockStep :
    (∃ t : State, Host.Core.run core 1 toDone = .next t ∧ nextOp t = some .send) ∧
    (∃ t : State, Host.Core.run core 3 toDone = .next t ∧ nextOp t = some (.pollMatch 0x01)) ∧
    (∃ t : State, Host.Core.run core 4 toDone = .next t ∧ nextOp t = some .readEof) ∧
    nextOp toDone = some (.readChunk [0x11]) := ⟨⟨_, rfl, rfl⟩, ⟨_, rfl, rfl⟩, ⟨_, rfl, rfl⟩, rfl⟩
theorem witness_IdealSessionDeliversTheFile :
    BlockInv ((inPhase .idle).withInputs (idealSession .b 0x05 8 [0x11])) ∧
    ((inPhase .idle).withInputs (idealSession .b 0x05 8 [0x11])).phase = .idle ∧ (inPhase .idle).rx = [] := by
  refine ⟨?_, rfl, rfl⟩
  constructor <;> decide

/-- Dead bytes: `sendingA` with other bytes behind its chunk. -/
theorem witness_DeadBufferBytesAreNeverRead : sendingA.envOnly = true ∧
    SameButDeadBytes sendingA { sendingA with chunkBuf := [0x00, 0x01, 0x02] ++ List.replicate 29 0x11 } ∧
    ∃ t, step sendingA = .next t := by
  refine ⟨rfl, ?_, _, rfl⟩
  constructor <;> decide
theorem witness_ChannelIsDeadInVariantA : SameButUnusedChan sendingA { sendingA with chan := 0x99 } ∧
    SameButUnusedChan sendingB sendingB ∧ (∃ t, step sendingA = .next t) ∧ ∃ t, step sendingB = .next t := by
  refine ⟨?_, ?_, ⟨_, rfl⟩, _, rfl⟩ <;> constructor <;> decide
theorem witness_SignalOutputsAreNeverRead : ∃ t, step sendingA = .next t := ⟨_, rfl⟩

end Sys2Proof.Tests
end

/-! SUPPORT. What an operation does where it completes: the operation's effect as a total function, and the operands and
states for which it completes. -/

namespace Sys2Proof.Machine

/-! ### The effect of an operation -/

/-- SEND completes where the payload is read (R110). -/
theorem execSend_of_payload {s : State} {p : List Byte} (h : s.chunkPayload = some p) :
    execSend s =
      .next ((s.txWrite (frameOut s.variant (seqNext s.seq) s.chan p)).incSeq.clearTimer.goto .awaitingAck) := by
  rw [execSend, h]

/-- A frame of at most 255 payload bytes is put on TX whole (R45, R68). -/
theorem putFrame_of_le {p : List Byte} (h : p.length ≤ 255) (v : Variant) (seq chan : Byte) (s : State) :
    putFrame v seq chan p s = .next (s.txWrite (frameOut v seq chan p)) := by
  rw [putFrame, encodeFrame_of_le h, frameOut_of_le h]

/-- Where an operation has a next state: all but four operations complete always. -/
def Completes (s : State) : Instr → Prop
  | .frameA _ p => p.length ≤ 255
  | .frameB _ _ p => p.length ≤ 255
  | .readChunk c => 1 ≤ c.length ∧ c.length ≤ 32
  | .send => s.chunkLen.toNat ≤ s.chunkBuf.length
  | _ => True

/-- The next state of an operation that completes. -/
def effect (s : State) : Instr → State
  | .frameA seq p => s.txWrite (frameOut .a seq 0 p)
  | .frameB seq chan p => s.txWrite (frameOut .b seq chan p)
  | .ack b => s.rxArrive b
  | .reset => s.resetBlock
  | .start v c t => (s.sampleConfig v c t).clearSeq.goto .reading
  | .readChunk c => ((s.srcTaken c).loadChunk c).goto .sending
  | .readEof => s.goto .done
  | .send =>
    (s.txWrite (frameOut s.variant (seqNext s.seq) s.chan (s.chunkBuf.take s.chunkLen.toNat))).incSeq.clearTimer.goto
      .awaitingAck
  | .sendTooLarge => s.incSeq.raise .payloadTooLarge
  | .pollMatch _ => s.rxTake.goto .reading
  | .pollMismatch b => s.rxTake.raise (.sequenceMismatch s.seq b)
  | .pollEmpty => s.tickTimer.goto .awaitingAck
  | .pollTimeout => s.tickTimer.raise (.rxTimeout (elapsedNext s.elapsed))
  | .holdDone => s
  | .holdFailed => s
  | .encA seq chan p => s.showOuts (encoderOuts .a seq chan p s.outs)
  | .encB seq chan p => s.showOuts (encoderOuts .b seq chan p s.outs)
  | .guard _ n => s.showOuts (guardOuts n s.outs)
  | .seqClr => s.clearSeq
  | .seqInc => s.incSeq
  | .ackCmp b => s.showOuts { s.outs with ackMatch := ackMatch b s.seq }
  | .tmrClr => s.clearTimer
  | .tmrTick => s.tickTimer.showOuts { s.outs with expired := expired s.elapsed s.tmo }

/-- An operation that completes has its effect. -/
theorem exec_of_completes {i : Instr} {s : State} (h : Completes s i) : exec i s = .next (effect s i) := by
  cases i with
  | frameA seq p => exact putFrame_of_le h .a seq 0 s
  | frameB seq chan p => exact putFrame_of_le h .b seq chan s
  | readChunk c => exact execReadChunk_of_wf h.1 h.2 s
  | send => exact execSend_of_payload (chunkPayload_of_le h)
  | _ => rfl

/-- An operation with a next state completes. -/
theorem completes_of_exec_eq_next {i : Instr} {s t : State} (h : exec i s = .next t) : Completes s i := by
  cases i with
  | frameA seq p => exact (putFrame_eq_next h).1
  | frameB seq chan p => exact (putFrame_eq_next h).1
  | readChunk c =>
    obtain ⟨h1, h2, -⟩ := execReadChunk_eq_next h
    exact ⟨h1, h2⟩
  | send =>
    obtain ⟨p, hp, -⟩ := execSend_eq_next h
    exact (chunkPayload_eq_some hp).2.2
  | _ => trivial

/-- Everything an operation can answer with a next state. -/
theorem exec_eq_next_iff {i : Instr} {s t : State} : exec i s = .next t ↔ Completes s i ∧ t = effect s i := by
  constructor
  · intro h
    have hc := completes_of_exec_eq_next h
    rw [exec_of_completes hc] at h
    cases h
    exact ⟨hc, rfl⟩
  · rintro ⟨hc, rfl⟩
    exact exec_of_completes hc

/-! ### Which registers an operation writes -/

section
variable {r : Reg} {s u : State}

@[simp] theorem sameReg_refl (r : Reg) (s : State) : sameReg r s s := by cases r <;> rfl

/-! A named operation on registers changes its own registers only, an operation on a stream or on `outs` none. -/

@[simp] theorem sameReg_goto (p : Phase) (h : r ≠ .state) : sameReg r s (u.goto p) ↔ sameReg r s u := by
  cases r with
  | state => exact absurd rfl h
  | _ => rfl

@[simp] theorem sameReg_clearSeq (h : r ≠ .seq) : sameReg r s u.clearSeq ↔ sameReg r s u := by
  cases r with
  | seq => exact absurd rfl h
  | _ => rfl

@[simp] theorem sameReg_incSeq (h : r ≠ .seq) : sameReg r s u.incSeq ↔ sameReg r s u := by
  cases r with
  | seq => exact absurd rfl h
  | _ => rfl

@[simp] theorem sameReg_clearTimer (h : r ≠ .elapsed) : sameReg r s u.clearTimer ↔ sameReg r s u := by
  cases r with
  | elapsed => exact absurd rfl h
  | _ => rfl

@[simp] theorem sameReg_tickTimer (h : r ≠ .elapsed) : sameReg r s u.tickTimer ↔ sameReg r s u := by
  cases r with
  | elapsed => exact absurd rfl h
  | _ => rfl

@[simp] theorem sameReg_sampleConfig (v : Variant) (c : Byte) (t : Ticks) (hv : r ≠ .variant) (hc : r ≠ .chan)
    (ht : r ≠ .tmo) : sameReg r s (u.sampleConfig v c t) ↔ sameReg r s u := by
  cases r with
  | variant => exact absurd rfl hv
  | chan => exact absurd rfl hc
  | tmo => exact absurd rfl ht
  | _ => rfl

@[simp] theorem sameReg_loadChunk (c : List Byte) (hb : r ≠ .chunkBuf) (hl : r ≠ .chunkLen) :
    sameReg r s (u.loadChunk c) ↔ sameReg r s u := by
  cases r with
  | chunkBuf => exact absurd rfl hb
  | chunkLen => exact absurd rfl hl
  | _ => rfl

@[simp] theorem sameReg_raiseTooLarge (hs : r ≠ .state) (hk : r ≠ .errKind) :
    sameReg r s (u.raise .payloadTooLarge) ↔ sameReg r s u := by
  cases r with
  | state => exact absurd rfl hs
  | errKind => exact absurd rfl hk
  | _ => rfl

@[simp] theorem sameReg_raiseTimeout (x : Ticks) (hs : r ≠ .state) (hk : r ≠ .errKind) (he : r ≠ .errElapsed) :
    sameReg r s (u.raise (.rxTimeout x)) ↔ sameReg r s u := by
  cases r with
  | state => exact absurd rfl hs
  | errKind => exact absurd rfl hk
  | errElapsed => exact absurd rfl he
  | _ => rfl

@[simp] theorem sameReg_raiseMismatch (x y : Byte) (hs : r ≠ .state) (hk : r ≠ .errKind) (hx : r ≠ .errExpected)
    (hy : r ≠ .errActual) : sameReg r s (u.raise (.sequenceMismatch x y)) ↔ sameReg r s u := by
  cases r with
  | state => exact absurd rfl hs
  | errKind => exact absurd rfl hk
  | errExpected => exact absurd rfl hx
  | errActual => exact absurd rfl hy
  | _ => rfl

@[simp] theorem sameReg_showOuts (o : Outs) : sameReg r s (u.showOuts o) ↔ sameReg r s u := by cases r <;> rfl

@[simp] theorem sameReg_srcTaken (c : List Byte) : sameReg r s (u.srcTaken c) ↔ sameReg r s u := by cases r <;> rfl

@[simp] theorem sameReg_txWrite (x : List Byte) : sameReg r s (u.txWrite x) ↔ sameReg r s u := by cases r <;> rfl

@[simp] theorem sameReg_rxTake : sameReg r s u.rxTake ↔ sameReg r s u := by cases r <;> rfl

@[simp] theorem sameReg_rxArrive (b : Byte) : sameReg r s (u.rxArrive b) ↔ sameReg r s u := by cases r <;> rfl

end

/-- The effect of an operation keeps every register it may not write (R11). -/
theorem effect_sameReg {i : Instr} {r : Reg} (s : State) (h : r ∉ mayWrite i) : sameReg r s (effect s i) := by
  cases i with
  | reset => cases r <;> simp [mayWrite] at h
  | _ =>
    simp only [mayWrite, List.mem_cons, List.not_mem_nil, or_false, not_or] at h
    simp [effect, h]

/-- Settles O28: an operation with a next state has its effect, and `effect_sameReg` says what that keeps. -/
theorem registersAreWrittenOnlyByTheirOperations : Obligations.RegistersAreWrittenOnlyByTheirOperations := by
  intro i s t r hexec hr
  obtain ⟨-, rfl⟩ := exec_eq_next_iff.1 hexec
  exact effect_sameReg s hr

/-! ### What the fetch reads, and what a step reads: two states that step alike -/

/-- A step that finds an operation runs it. -/
theorem step_of_fetch_op {s : State} {i : Instr} (h : (fetch s).1 = .op i) : step s = exec i (fetch s).2 := by
  rw [step, ← Prod.eta (fetch s), h]

/-- A step that finds nothing to do uses up the input presented. -/
theorem step_of_fetch_ignored {s : State} (h : (fetch s).1 = .ignored) : step s = .next (fetch s).2 := by
  rw [step, ← Prod.eta (fetch s), h]

/-- What the fetch leaves: the input presented is used up. -/
theorem fetch_state (s : State) : (fetch s).2 = s.withInputs s.inputs.tail := by
  rcases hl : s.inputs with _ | ⟨x, l⟩
  · rw [fetch_nil hl]
    cases s
    cases hl
    rfl
  · rw [fetch_cons hl, List.tail_cons]

/-- The selection reads neither the bytes of `CHUNK_BUF` nor `CHAN` nor the model's reading of outputs (R70). -/
theorem fetch_op_of_unread (s : State) (b : List Byte) (c : Byte) (o : Outs) :
    (fetch { s with chunkBuf := b, chan := c, outs := o }).1 = (fetch s).1 := by
  simp only [fetch]
  rcases s.inputs with _ | ⟨x, l⟩
  · rfl
  · cases x with
    | event e => cases e <;> rfl
    | _ => rfl

/-- A relation that the fetch and the operation it finds keep is kept by the step: the step reads nothing else. -/
theorem step_keeps_related {R : State → State → Prop} {s u t : State} (hsel : (fetch u).1 = (fetch s).1)
    (hfetch : R (fetch s).2 (fetch u).2)
    (hexec : ∀ i, (fetch s).1 = .op i → exec i (fetch s).2 = .next t → ∃ w, exec i (fetch u).2 = .next w ∧ R t w)
    (h : step s = .next t) : ∃ w, step u = .next w ∧ R t w := by
  obtain ⟨i, hi, ht⟩ | ⟨hi, rfl⟩ := step_eq_next h
  · obtain ⟨w, hw, hR⟩ := hexec i hi ht
    exact ⟨w, by rw [step_of_fetch_op (hsel.trans hi), hw], hR⟩
  · exact ⟨_, step_of_fetch_ignored (hsel.trans hi), hfetch⟩

/-- Whether an operation completes depends neither on `CHAN` nor on the model's reading of outputs. -/
theorem completes_of_unread {i : Instr} {s : State} (c : Byte) (o : Outs) (h : Completes s i) :
    Completes { s with chan := c, outs := o } i := by
  cases i <;> exact h

/-! ### `outs` is never read -/

/-- Whatever `outs` held, the effect of an operation is the same but for what `outs` shows (log 9). -/
theorem effect_showOuts (i : Instr) (s : State) (o : Outs) :
    ∃ o', effect (s.showOuts o) i = (effect s i).showOuts o' := by
  cases i with
  | encA seq chan p => exact ⟨encoderOuts .a seq chan p o, rfl⟩
  | encB seq chan p => exact ⟨encoderOuts .b seq chan p o, rfl⟩
  | guard v n => exact ⟨guardOuts n o, rfl⟩
  | ackCmp b => exact ⟨{ o with ackMatch := ackMatch b s.seq }, rfl⟩
  | tmrTick => exact ⟨{ o with expired := expired s.elapsed s.tmo }, rfl⟩
  | _ => exact ⟨o, rfl⟩

/-- Settles O60: the selection does not read `outs`, and of an operation's effect only `outs` depends on it. -/
theorem signalOutputsAreNeverRead : Obligations.SignalOutputsAreNeverRead := by
  intro s t o h
  have key : ∃ w, step (s.showOuts o) = .next w ∧ ∃ o', w = t.showOuts o' := by
    refine step_keeps_related (R := fun t w => ∃ o', w = t.showOuts o') (fetch_op_of_unread s _ _ o) ?_ ?_ h
    · exact ⟨o, by rw [fetch_state, fetch_state]; rfl⟩
    · intro i _ ht
      obtain ⟨hc, rfl⟩ := exec_eq_next_iff.1 ht
      have hf : (fetch (s.showOuts o)).2 = (fetch s).2.showOuts o := by rw [fetch_state, fetch_state]; rfl
      rw [hf]
      exact ⟨_, exec_of_completes (completes_of_unread _ o hc), effect_showOuts i _ o⟩
  obtain ⟨w, hw, o', rfl⟩ := key
  exact ⟨o', hw⟩

/-! ### `CHAN` is dead in variant A -/

/-- Every state makes such a pair with itself. -/
theorem SameButUnusedChan.refl (s : State) : SameButUnusedChan s s := ⟨rfl, fun _ => rfl⟩

/-- Such a pair is one state, or two of variant A. -/
theorem SameButUnusedChan.cases {s u : State} (h : SameButUnusedChan s u) :
    u = s ∨ s.variant = .a ∧ u = { s with chan := u.chan } := by
  obtain ⟨hrest, hused⟩ := h
  obtain hv | hv : s.variant = .a ∨ s.variant = .b := by cases s.variant <;> simp
  · exact .inr ⟨hv, hrest⟩
  · exact .inl (by rw [hrest, hused hv])

/-- In variant A the frame does not depend on the channel (R82). -/
theorem frameOut_of_variant_a {v : Variant} (h : v = .a) (seq chan chan' : Byte) (p : List Byte) :
    frameOut v seq chan p = frameOut v seq chan' p := by
  subst h
  rfl

/-- In variant A the effect of an operation is the same but for an unused `CHAN`. -/
theorem effect_sameButUnusedChan {s : State} (h : s.variant = .a) (c : Byte) (i : Instr) :
    SameButUnusedChan (effect s i) (effect { s with chan := c } i) := by
  have hused : s.variant = .b → c = s.chan := fun hb => by rw [h] at hb; cases hb
  cases i with
  | reset => exact .refl _
  | start v x t => exact .refl _
  | send =>
    simp only [effect]
    rw [frameOut_of_variant_a h _ c s.chan]
    exact ⟨rfl, hused⟩
  | _ => exact ⟨rfl, hused⟩

/-- An operation keeps such a pair (R16). -/
theorem exec_keeps_sameButUnusedChan {i : Instr} {s u t : State} (hu : SameButUnusedChan s u) (h : exec i s = .next t) :
    ∃ w, exec i u = .next w ∧ SameButUnusedChan t w := by
  obtain rfl | ⟨hv, hu⟩ := hu.cases
  · exact ⟨t, h, .refl t⟩
  · obtain ⟨hc, rfl⟩ := exec_eq_next_iff.1 h
    rw [hu]
    exact ⟨_, exec_of_completes (completes_of_unread _ _ hc), effect_sameButUnusedChan hv _ i⟩

/-- Settles O59: the selection does not read `CHAN`, and an operation reads it in variant B only. -/
theorem channelIsDeadInVariantA : Obligations.ChannelIsDeadInVariantA := by
  intro s u t hu h
  have hfetch : SameButUnusedChan (fetch s).2 (fetch u).2 := by
    rw [fetch_state, fetch_state, hu.rest]
    exact ⟨rfl, hu.used⟩
  have hsel : (fetch u).1 = (fetch s).1 := by
    rw [hu.rest]
    exact fetch_op_of_unread s _ _ _
  obtain ⟨w, hw, hR⟩ := step_keeps_related hsel hfetch (fun i _ => exec_keeps_sameButUnusedChan hfetch) h
  exact ⟨w, hw, hR, by rw [hR.rest]⟩

/-! ### Dead bytes of `CHUNK_BUF` -/

section
variable {u v t w : State} {i : Instr}

/-- Outside Sending any two contents of `CHUNK_BUF` make such a pair (R19). -/
theorem sameButDeadBytes_of_not_sending (hp : t.phase ≠ .sending) (ht : t.chunkBuf.length = Config.chunkMax)
    (hw : w.chunkBuf.length = Config.chunkMax) (hrest : w = { t with chunkBuf := w.chunkBuf }) :
    SameButDeadBytes t w := ⟨hrest, ht, hw, fun h => absurd h hp⟩

/-- Both states of such a pair read the same payload in Sending. -/
theorem SameButDeadBytes.chunkPayload (h : SameButDeadBytes u v) (hp : u.phase = .sending) :
    v.chunkPayload = u.chunkPayload := by
  have hlen : v.chunkLen = u.chunkLen := by rw [h.rest]
  simp only [State.chunkPayload, hlen, h.lengthS, h.lengthT, h.payload hp]

/-- The effect of READ.CHUNK overwrites the bytes that SEND will read (R108). -/
theorem SameButDeadBytes.loadChunk {c : List Byte} (h : SameButDeadBytes u v) (hc : c.length ≤ 32) :
    SameButDeadBytes (effect u (.readChunk c)) (effect v (.readChunk c)) where
  rest := by rw [h.rest]; rfl
  lengthS := (overwriteHead_length (hc.trans h.lengthS.ge)).trans h.lengthS
  lengthT := (overwriteHead_length (hc.trans h.lengthT.ge)).trans h.lengthT
  payload _ := by simp [effect, Nat.mod_eq_of_lt (show c.length < 64 by omega)]

/-- An operation the hardware performs keeps such a pair (R19, R121). -/
theorem EnvStep.keeps_sameButDeadBytes (h : EnvStep u (some i) t) (hv : SameButDeadBytes u v) :
    ∃ w, exec i v = .next w ∧ SameButDeadBytes t w := by
  obtain ⟨b, rfl⟩ : ∃ b, v = { u with chunkBuf := b } := ⟨_, hv.rest⟩
  obtain ⟨-, hlenU, hlenV, hpay⟩ := id hv
  cases h with
  | reset => exact ⟨_, rfl, sameButDeadBytes_of_not_sending (by simp) (by simp) (by simp) rfl⟩
  | start x c y hp => exact ⟨_, rfl, sameButDeadBytes_of_not_sending (by simp) hlenU hlenV rfl⟩
  | readChunk c hp h1 h2 => exact ⟨_, exec_of_completes ⟨h1, h2⟩, hv.loadChunk h2⟩
  | readEof hp => exact ⟨_, rfl, sameButDeadBytes_of_not_sending (by simp) hlenU hlenV rfl⟩
  | send p hp hpl =>
    rw [← hv.chunkPayload hp] at hpl
    exact ⟨_, execSend_of_payload hpl, sameButDeadBytes_of_not_sending (by simp) hlenU hlenV rfl⟩
  | pollMatch x hp hx => exact ⟨_, rfl, sameButDeadBytes_of_not_sending (by simp) hlenU hlenV rfl⟩
  | pollMismatch x hp hx => exact ⟨_, rfl, sameButDeadBytes_of_not_sending (by simp) hlenU hlenV rfl⟩
  | pollEmpty hp hx => exact ⟨_, rfl, sameButDeadBytes_of_not_sending (by simp) hlenU hlenV rfl⟩
  | pollTimeout hp hx => exact ⟨_, rfl, sameButDeadBytes_of_not_sending (by simp) hlenU hlenV rfl⟩
  | holdDone hp => exact ⟨_, rfl, hv⟩
  | holdFailed hp => exact ⟨_, rfl, hv⟩
  | arrive x => exact ⟨_, rfl, rfl, hlenU, hlenV, hpay⟩

end

/-- Settles O58: the selection does not read `CHUNK_BUF`, and of the operations only SEND does, the first `CHUNK_LEN`
bytes in Sending. -/
theorem deadBufferBytesAreNeverRead : Obligations.DeadBufferBytesAreNeverRead := by
  intro s u t he hu h
  have hfetch : SameButDeadBytes (fetch s).2 (fetch u).2 := by
    obtain ⟨hrest, hlenS, hlenU, hpay⟩ := hu
    rw [fetch_state, fetch_state]
    exact ⟨by rw [hrest]; rfl, hlenS, hlenU, hpay⟩
  have hsel : (fetch u).1 = (fetch s).1 := by
    rw [hu.rest]
    exact fetch_op_of_unread s _ _ _
  refine step_keeps_related hsel hfetch (fun i hi ht => ?_) h
  have hstep := envStep_of_step he h
  rw [← fetch_state, nextOp, hi] at hstep
  exact EnvStep.keeps_sameButDeadBytes hstep hfetch

/-! ### The budget of a round (R99, R100) -/

/-- A round allows at least one empty poll (R100). -/
theorem zero_lt_budget (t : Ticks) : 0 < budget t := by
  rw [BitVec.lt_def, budget_toNat, pollBudget]
  exact lt_max_of_lt_right Nat.one_pos

/-- An empty poll with budget left stays below the budget (R116). -/
theorem elapsedNext_lt_budget {e t : Ticks} (hx : expired e t = false) : elapsedNext e < budget t := by
  have hlt : ¬ t ≤ e + 1 := fun h => by simp [(expired_iff e t).2 h] at hx
  rw [BitVec.lt_def, budget_toNat, pollBudget]
  rw [BitVec.le_def] at hlt
  exact lt_max_of_lt_left (not_le.1 hlt)

/-- The empty poll that spends the budget ends on it exactly (R99, R117). -/
theorem elapsedNext_eq_budget {e t : Ticks} (he : e < budget t) (hx : expired e t = true) : elapsedNext e = budget t := by
  have hle := (expired_iff e t).1 hx
  have hnext : (e + 1).toNat = e.toNat + 1 := by bv_omega
  rw [BitVec.lt_def, budget_toNat, pollBudget] at he
  rw [BitVec.le_def, hnext] at hle
  apply BitVec.eq_of_toNat_eq
  rw [elapsedNext, hnext, budget_toNat, pollBudget]
  omega

/-! ### The invariants of R37 -/

section
variable {s u t : State} {i : Option Instr}

/-- No error is taken: the error record holds its reset values (R20 to R22). -/
def NoError (s : State) : Prop := s.errKind = .none ∧ s.errExpected = 0 ∧ s.errActual = 0 ∧ s.errElapsed = 0

/-- Outside Failed no error has been taken (R37). -/
theorem BlockInv.noError (h : BlockInv s) (hp : s.phase ≠ .failed) : NoError s := by
  have hk : s.errKind = .none := not_not.1 fun hk => hp (h.failedIff.2 hk)
  obtain ⟨hx, hy⟩ := h.noMismatch (by simp [hk])
  exact ⟨hk, hx, hy, h.noTimeout (by simp [hk])⟩

/-- With no error taken the invariants are those of the buffer, the timer and `SEQ` in Idle. -/
theorem NoError.blockInv (h : NoError s) (hp : s.phase ≠ .failed) (hbuf : s.chunkBuf.length = Config.chunkMax)
    (hlen : s.chunkLen.toNat ≤ Config.chunkMax) (hsend : s.phase = .sending → 1 ≤ s.chunkLen.toNat)
    (hwait : s.phase = .awaitingAck → s.elapsed < budget s.tmo) (hidle : s.phase = .idle → s.seq = 0) :
    BlockInv s := by
  obtain ⟨hkind, hexpected, hactual, helapsed⟩ := h
  exact
    { bufLength := hbuf
      lenBound := hlen
      sendingLen := hsend
      failedIff := by simp [hp, hkind]
      mismatch := fun hk => by simp [hkind] at hk
      timeout := fun hk => by simp [hkind] at hk
      awaiting := hwait
      noMismatch := fun _ => ⟨hexpected, hactual⟩
      noTimeout := fun _ => helapsed
      notTooLarge := by simp [hkind]
      idleSeq := hidle }

/-- Settles O49: no error is taken, the buffer has its 32 bytes, and `STATE` is Idle with `SEQ` 0. -/
theorem invariantHoldsAtReset : Obligations.InvariantHoldsAtReset :=
  NoError.blockInv ⟨rfl, rfl, rfl, rfl⟩ (by simp [State.reset]) List.length_replicate (Nat.zero_le _)
    (by simp [State.reset]) (by simp [State.reset]) (fun _ => rfl)

/-- The invariants do not read the schedule. -/
theorem BlockInv.withInputs (h : BlockInv s) (l : List Input) : BlockInv (s.withInputs l) := { h with }

/-- RESET establishes the invariants in every state (R150). -/
theorem blockInv_resetBlock (s : State) : BlockInv s.resetBlock :=
  NoError.blockInv ⟨rfl, rfl, rfl, rfl⟩ (by simp) (by simp) (Nat.zero_le _) (by simp) (by simp) (fun _ => rfl)

/-- Taking the mismatch of a byte different from `SEQ` establishes the record's invariants (R115, R133). -/
theorem blockInv_raiseMismatch {b : Byte} (hz : s.errElapsed = 0) (hb : b ≠ s.seq)
    (hbuf : s.chunkBuf.length = Config.chunkMax) (hlen : s.chunkLen.toNat ≤ Config.chunkMax) :
    BlockInv (s.raise (.sequenceMismatch s.seq b)) where
  bufLength := hbuf
  lenBound := hlen
  sendingLen := by simp
  failedIff := by simp
  mismatch _ := ⟨rfl, hb⟩
  timeout := by simp
  awaiting := by simp
  noMismatch := by simp
  noTimeout _ := hz
  notTooLarge := by simp
  idleSeq := by simp

/-- Taking the timeout on a spent budget establishes the record's invariants (R117, R132). -/
theorem blockInv_raiseTimeout (hrec : s.errExpected = 0 ∧ s.errActual = 0) (hx : s.elapsed = budget s.tmo)
    (hbuf : s.chunkBuf.length = Config.chunkMax) (hlen : s.chunkLen.toNat ≤ Config.chunkMax) :
    BlockInv (s.raise (.rxTimeout s.elapsed)) where
  bufLength := hbuf
  lenBound := hlen
  sendingLen := by simp
  failedIff := by simp
  mismatch := by simp
  timeout _ := ⟨rfl, hx⟩
  awaiting := by simp
  noMismatch _ := hrec
  noTimeout := by simp
  notTooLarge := by simp
  idleSeq := by simp

/-- Every operation the hardware performs keeps the invariants (R37). -/
theorem EnvStep.keeps_blockInv (h : EnvStep u i t) (hi : BlockInv u) : BlockInv t := by
  have hbuf := hi.bufLength
  have hlen := hi.lenBound
  cases h with
  | ignored => exact hi
  | reset => exact blockInv_resetBlock u
  | start v c x hp =>
    exact NoError.blockInv (hi.noError (by simp [hp])) (by simp) hbuf hlen (by simp) (by simp) (by simp)
  | readChunk c hp h1 h2 =>
    have hc : (BitVec.ofNat 6 c.length).toNat = c.length := chunkLen_exact h2
    have hload : (overwriteHead c u.chunkBuf).length = Config.chunkMax :=
      (overwriteHead_length (h2.trans hbuf.ge)).trans hbuf
    exact NoError.blockInv (hi.noError (by simp [hp])) (by simp) hload (hc.trans_le h2) (fun _ => h1.trans_eq hc.symm)
      (by simp) (by simp)
  | readEof hp =>
    exact NoError.blockInv (hi.noError (by simp [hp])) (by simp) hbuf hlen (by simp) (by simp) (by simp)
  | send p hp hpl =>
    exact NoError.blockInv (hi.noError (by simp [hp])) (by simp) hbuf hlen (by simp)
      (fun _ => zero_lt_budget u.tmo) (by simp)
  | pollMatch b hp hb =>
    exact NoError.blockInv (hi.noError (by simp [hp])) (by simp) hbuf hlen (by simp) (by simp) (by simp)
  | pollMismatch b hp hb =>
    obtain ⟨-, -, -, hz⟩ := hi.noError (by simp [hp])
    exact blockInv_raiseMismatch (s := u.rxTake) hz hb hbuf hlen
  | pollEmpty hp hx =>
    exact NoError.blockInv (hi.noError (by simp [hp])) (by simp) hbuf hlen (by simp)
      (fun _ => elapsedNext_lt_budget hx) (by simp)
  | pollTimeout hp hx =>
    obtain ⟨-, hx', hy', -⟩ := hi.noError (by simp [hp])
    exact blockInv_raiseTimeout (s := u.tickTimer) ⟨hx', hy'⟩ (elapsedNext_eq_budget (hi.awaiting hp) hx) hbuf hlen
  | holdDone hp => exact hi
  | holdFailed hp => exact hi
  | arrive b => exact { hi with }

/-- No operation the hardware performs touches the schedule. -/
theorem EnvStep.inputs (h : EnvStep u i t) : t.inputs = u.inputs := by
  cases h <;> rfl

/-- What is left of a schedule of the environment is one. -/
theorem envOnly_of_step (he : s.envOnly = true) (h : step s = .next t) : t.envOnly = true := by
  rw [State.envOnly, (envStep_of_step he h).inputs, State.withInputs_inputs]
  rw [State.envOnly, List.all_eq_true] at he
  exact List.all_eq_true.2 fun x hx => he x (List.mem_of_mem_tail hx)

end

/-- Settles O50: the invariants do not read the schedule, and each operation the hardware performs keeps them. -/
theorem everyStepKeepsTheInvariant : Obligations.EveryStepKeepsTheInvariant := by
  intro s t he hi h
  exact ⟨(envStep_of_step he h).keeps_blockInv (hi.withInputs _), envOnly_of_step he h⟩

/-! ### Which step leads to Idle (R25, R151) -/

/-- Settles O26: of the operations the hardware performs only RESET ends in Idle, where none is ignored. -/
theorem onlyResetAbandonsASession : Obligations.OnlyResetAbandonsASession := by
  intro s t he hs h ht
  have hstep := envStep_of_step he h
  generalize nextOp s = i at hstep ⊢
  cases hstep with
  | reset => rfl
  | ignored => exact absurd ht hs
  | holdDone hp => exact absurd ht hs
  | holdFailed hp => exact absurd ht hs
  | arrive b => exact absurd ht hs
  | _ => cases ht

/-! ### A session: a run without a reset, outside Idle -/

section
variable {s u t : State} {i : Option Instr}

/-- No event but `reset` selects RESET: every branch of the selection of another event answers otherwise (R70, R139). -/
theorem eq_reset_of_select {e : Event} (h : select e s = .op .reset) : e = .reset := by
  cases e with
  | reset => rfl
  | _ =>
    simp only [select, selectStart, selectChunk, selectSend, selectAck, selectTick, pollByte, pollNone] at h
    repeat' split at h
    all_goals cases h

/-- With nothing presented the block runs no RESET (R105). -/
theorem selectNothing_ne_reset (s : State) : selectNothing s ≠ .op .reset := by
  intro h
  unfold selectNothing at h
  split at h
  case h_3 => cases eq_reset_of_select (e := .send) h
  all_goals cases h

/-- A selection that runs an operation. -/
theorem Selection.instr?_eq_some_iff {x : Selection} {i : Instr} : x.instr? = some i ↔ x = .op i := by
  cases x <;> simp [Selection.instr?]

/-- A state of a session that a schedule of the environment without a reset carries on. -/
structure InSession (s : State) : Prop where
  env : s.envOnly = true
  noReset : s.noReset = true
  active : s.phase ≠ .idle

/-- Where no reset is scheduled, the next step is no RESET. -/
theorem InSession.nextOp_ne_reset (hs : InSession s) : nextOp s ≠ some .reset := by
  obtain ⟨henv, hnoReset, -⟩ := hs
  rw [nextOp, Ne, Selection.instr?_eq_some_iff]
  intro h
  rcases hl : s.inputs with _ | ⟨x, l⟩
  · rw [fetch_nil hl] at h
    exact selectNothing_ne_reset s h
  · rw [State.envOnly, hl, List.all_cons, Bool.and_eq_true] at henv
    rw [State.noReset, hl, List.all_cons, Bool.and_eq_true] at hnoReset
    rw [fetch_cons hl] at h
    cases x with
    | event e =>
      obtain rfl := eq_reset_of_select h
      simp [Input.isReset] at hnoReset
    | resetWith e => simp [Input.isReset] at hnoReset
    | arrive b => cases h
    | bench p b => simp [Input.isEnv] at henv

/-- A session goes on: no step of it but RESET leads to Idle (R25). -/
theorem InSession.step (hs : InSession s) (h : step s = .next t) : InSession t where
  env := envOnly_of_step hs.env h
  noReset := by
    have hno := hs.noReset
    rw [State.noReset, List.all_eq_true] at hno
    rw [State.noReset, (envStep_of_step hs.env h).inputs, State.withInputs_inputs, List.all_eq_true]
    exact fun x hx => hno x (List.mem_of_mem_tail hx)
  active ht := hs.nextOp_ne_reset (onlyResetAbandonsASession s t hs.env hs.active h ht)

/-- The two states hold the same configuration (R15 to R17). -/
def SameConfig (s t : State) : Prop := t.variant = s.variant ∧ t.chan = s.chan ∧ t.tmo = s.tmo

/-- Outside Idle no operation but RESET writes the configuration (R24, R57). -/
theorem EnvStep.keeps_config (h : EnvStep u i t) (hp : u.phase ≠ .idle) (hi : i ≠ some .reset) : SameConfig u t := by
  cases h with
  | reset => exact absurd rfl hi
  | start v c x hidle => exact absurd hidle hp
  | _ => exact ⟨rfl, rfl, rfl⟩

/-- A step of a session keeps the configuration. -/
theorem InSession.step_keeps_config (hs : InSession s) (h : Machine.step s = .next t) : SameConfig s t :=
  (envStep_of_step hs.env h).keeps_config hs.active hs.nextOp_ne_reset

end

/-- Settles O53, by induction on the run: a step of a session keeps the configuration and the session goes on. -/
theorem configurationIsFixedForTheSession : Obligations.ConfigurationIsFixedForTheSession := by
  intro k s t he hn hp hrun
  have hstep : ∀ u w (l : List Instr), InSession u ∧ SameConfig s u → step u = .next w → InSession w ∧ SameConfig s w := by
    rintro u w - ⟨hu, hv, hc, ht⟩ h
    obtain ⟨hv', hc', ht'⟩ := hu.step_keeps_config h
    exact ⟨hu.step h, hv'.trans hv, hc'.trans hc, ht'.trans ht⟩
  exact (run_induction (P := fun u _ => InSession u ∧ SameConfig s u) hstep ⟨⟨he, hn, hp⟩, rfl, rfl, rfl⟩ hrun).2

/-! ### What a step does to the streams (R33, R45, R47) -/

section
variable {u t : State} {i : Option Instr}

/-- Only SEND appends to TX. -/
theorem EnvStep.tx (h : EnvStep u i t) : t.tx = u.tx ∨ i = some .send ∧ ∃ f, t.tx = u.tx ++ f := by
  cases h with
  | send p hp hpl => exact .inr ⟨rfl, _, rfl⟩
  | _ => exact .inl rfl

/-- Only READ.CHUNK moves the source, by the chunk's length. -/
theorem EnvStep.srcPos (h : EnvStep u i t) :
    t.srcPos = u.srcPos ∨ ∃ c, i = some (.readChunk c) ∧ t.srcPos = u.srcPos + c.length := by
  cases h with
  | readChunk c hp h1 h2 => exact .inr ⟨c, rfl, rfl⟩
  | _ => exact .inl rfl

/-- RX grows at its tail by arrivals and loses its head to polls that returned a byte. -/
theorem EnvStep.rx (h : EnvStep u i t) :
    (t.rx = u.rx ∧ t.rxTaken = u.rxTaken) ∨
    (∃ b, i = some (.ack b) ∧ t.rx = u.rx ++ [b] ∧ t.rxTaken = u.rxTaken) ∨
    (∃ b, (i = some (.pollMatch b) ∨ i = some (.pollMismatch b)) ∧ t.rx = u.rx.tail ∧
      t.rxTaken = u.rxTaken + 1) := by
  cases h with
  | pollMatch b hp hb => exact .inr (.inr ⟨b, .inl rfl, by simp, rfl⟩)
  | pollMismatch b hp hb => exact .inr (.inr ⟨b, .inr rfl, by simp, rfl⟩)
  | arrive b => exact .inr (.inl ⟨b, rfl, rfl, rfl⟩)
  | _ => exact .inl ⟨rfl, rfl⟩

/-- Each poll that returned a byte is one byte taken from RX (R28). -/
theorem EnvStep.rxTaken (h : EnvStep u i t) :
    t.rxTaken = u.rxTaken + i.toList.countP isMatch + i.toList.countP isMismatch := by
  cases h <;> rfl

/-- Frames that wait for their acknowledgement: one in AwaitingAck. -/
def owed : Phase → Nat
  | .awaitingAck => 1
  | _ => 0

/-- A byte is taken only for a frame that waits, and a frame waits only when it was sent (R54). -/
theorem EnvStep.taken_add_owed_le (h : EnvStep u i t) :
    i.toList.countP isMatch + i.toList.countP isMismatch + owed t.phase ≤ i.toList.countP isSend + owed u.phase := by
  cases h with
  | pollMatch b hp hb => simp [hp, owed, isMatch, isMismatch]
  | pollMismatch b hp hb => simp [hp, owed, isMatch, isMismatch]
  | pollEmpty hp hx => simp [hp, owed, isMatch, isMismatch]
  | _ => simp [owed, isMatch, isMismatch, isSend]

/-- Since RX had given `n` bytes, the operations `l` led to `s`: each byte taken since was a poll's, and the frames sent
cover the polls that got one and the frame that waits. -/
structure TakenSince (n : Nat) (s : State) (l : List Instr) : Prop where
  env : s.envOnly = true
  taken : s.rxTaken = n + l.countP isMatch + l.countP isMismatch
  covered : l.countP isMatch + l.countP isMismatch + owed s.phase ≤ l.countP isSend

/-- A step of the hardware keeps the count of the bytes taken. -/
theorem TakenSince.step {n : Nat} {l : List Instr} (hu : TakenSince n u l) (h : step u = .next t) :
    TakenSince n t (l ++ (nextOp u).toList) := by
  obtain ⟨henv, htaken, hcovered⟩ := hu
  have hstep := envStep_of_step henv h
  have htaken' := hstep.rxTaken
  have hcovered' := hstep.taken_add_owed_le
  simp only [State.withInputs_rxTaken, State.withInputs_phase] at htaken' hcovered'
  refine ⟨envOnly_of_step henv h, ?_, ?_⟩
  · simp only [List.countP_append]
    omega
  · simp only [List.countP_append]
    omega

end

/-- Settles O29: what each operation of a hardware step does to TX, to the source and to RX. -/
theorem streamsAreReachedOnlyByTheirOperations : Obligations.StreamsAreReachedOnlyByTheirOperations := by
  intro s t he h
  have hstep := envStep_of_step he h
  exact ⟨hstep.tx, hstep.srcPos, hstep.rx⟩

/-- Settles O54, by induction on the run: every step keeps `TakenSince`. -/
theorem bytesTakenAreThePollsThatGotOne : Obligations.BytesTakenAreThePollsThatGotOne := by
  intro k s t _ he _ hp hrun
  have h0 : TakenSince s.rxTaken s [] := ⟨he, rfl, by simp [hp, owed]⟩
  obtain ⟨-, htaken, hcovered⟩ := run_induction (fun _ _ _ hu => hu.step) h0 hrun
  exact ⟨htaken, by omega⟩

/-! ### The outputs (R26 to R31) -/

section
variable {s : State}

@[simp] theorem State.isIdle_iff : s.isIdle = true ↔ s.phase = .idle := decide_eq_true_iff

@[simp] theorem State.isDone_iff : s.isDone = true ↔ s.phase = .done := decide_eq_true_iff

@[simp] theorem State.isFailed_iff : s.isFailed = true ↔ s.phase = .failed := decide_eq_true_iff

@[simp] theorem State.srcReq_iff : s.srcReq = true ↔ s.phase = .reading := decide_eq_true_iff

@[simp] theorem State.txValid_iff : s.txValid = true ↔ s.phase = .sending := decide_eq_true_iff

@[simp] theorem State.rxReady_iff : s.rxReady = true ↔ s.phase = .awaitingAck := decide_eq_true_iff

@[simp] theorem State.busy_iff : s.busy = true ↔ s.phase = .reading ∨ s.phase = .sending ∨ s.phase = .awaitingAck := by
  simp [State.busy, or_assoc]

/-- Exactly one of the four summary outputs is 1 (R31). -/
theorem State.summary_exactly_one (s : State) :
    s.isIdle.toNat + s.busy.toNat + s.isDone.toNat + s.isFailed.toNat = 1 := by
  unfold State.isIdle State.busy State.isDone State.isFailed
  cases s.phase <;> rfl

/-- In Sending, `tx_data` is the frame of the payload read (R27). -/
theorem State.txData_of_payload {p : List Byte} (hp : s.phase = .sending) (hpl : s.chunkPayload = some p) :
    s.txData = frameOut s.variant (seqNext s.seq) s.chan p := by
  rw [State.txData, hp, hpl]

/-- The payload in `CHUNK_BUF` is framed whole: its 6-bit length is never above 255 (R110). -/
theorem length_frameOut_of_payload {p : List Byte} (hpl : s.chunkPayload = some p) (v : Variant) (seq chan : Byte) :
    (frameOut v seq chan p).length = Config.hdrLen v + s.chunkLen.toNat := by
  obtain ⟨-, hlen, -⟩ := chunkPayload_eq_some hpl
  have hle : p.length ≤ 255 := by
    have := s.chunkLen.isLt
    omega
  rw [frameOut_of_le hle, List.length_append, headerBytes_length, hlen]

end

/-- Settles O12: `tx_data` and SEND frame the same payload. -/
theorem txDataIsTheFrameSendHandsOver : Obligations.TxDataIsTheFrameSendHandsOver := by
  refine fun s t => ⟨State.txValid_iff, fun hp h => ?_⟩
  obtain ⟨p, hpl, rfl⟩ := execSend_eq_next h
  rw [State.txData_of_payload hp hpl]
  exact ⟨rfl, length_frameOut_of_payload hpl _ _ _⟩

/-- Settles O30: the request and summary outputs compare `STATE`, the status outputs are the registers or their codes. -/
theorem outputsFollowTheRegisters : Obligations.OutputsFollowTheRegisters := by
  intro s
  refine ⟨s.summary_exactly_one, State.busy_iff, State.isDone_iff, State.isFailed_iff, State.isIdle_iff, State.srcReq_iff,
    State.txValid_iff, State.rxReady_iff, ?state, ?errKind, ?variant, rfl, rfl, rfl, rfl, rfl, rfl, rfl, rfl⟩
  case state => rw [State.status]; cases s.phase <;> rfl
  case errKind => rw [State.status]; cases s.errKind <;> rfl
  case variant => rw [State.status]; cases s.variant <;> rfl

/-! ### Fixed states -/

/-- Settles O2: every register and output of `State.reset` is as R36 says, by evaluation. -/
theorem resetStateHoldsTheResetValues : Obligations.ResetStateHoldsTheResetValues :=
  ⟨rfl, rfl, rfl, rfl, rfl, rfl, rfl, List.length_replicate, rfl, rfl, rfl, rfl, rfl, rfl, rfl, rfl, rfl, rfl⟩

/-- Settles O10: SEND finds no payload to read, and faults. -/
theorem sendBeyondTheBufferFaults : Obligations.SendBeyondTheBufferFaults := by
  intro s h
  change execSend s = .fault .chunkBufOverrun
  rw [execSend, chunkPayload_of_lt h]

end Sys2Proof.Machine

/-! SUPPORT. The byte source's chunks (R43), lock-step over a session (R54), and whole sessions under the reference
environment (R59). -/

namespace Sys2Proof.Machine

/-! ### The reference source (R43) -/

section
variable {file rest : List Byte} {cs : List (List Byte)}

/-- A read returns nothing exactly at the end of the file, or beyond it. -/
theorem srcRead_eq_nil_iff {pos n : Nat} (hn : 0 < n) : (srcRead file pos n).1 = [] ↔ file.length ≤ pos := by
  simp [srcRead, hn.ne']

/-- What is left behind a read is what was left before it without the bytes returned. -/
theorem drop_srcRead (file : List Byte) (pos n : Nat) : file.drop (srcRead file pos n).2 = (file.drop pos).drop n := by
  rw [srcRead, ← List.drop_drop, List.length_take, List.drop_eq_drop_iff]
  omega

/-- `cs` is `rest` cut into chunks of 32 bytes, the last one possibly shorter. -/
inductive CutInto : List Byte → List (List Byte) → Prop where
  | nil : CutInto [] []
  | cons {rest : List Byte} {cs : List (List Byte)} (hne : rest ≠ []) (h : CutInto (rest.drop 32) cs) :
      CutInto rest (rest.take 32 :: cs)

/-- Reading from `pos` on cuts what is left of the file into chunks, given fuel for each byte of it. -/
theorem cutInto_chunksFrom {fuel pos : Nat} (h : file.length ≤ pos + fuel) :
    CutInto (file.drop pos) (chunksFrom file fuel pos) := by
  induction fuel generalizing pos with
  | zero =>
    rw [List.drop_eq_nil_of_le (by omega)]
    exact .nil
  | succ fuel ih =>
    rw [chunksFrom]
    split
    · next heof =>
      rw [eof_iff, srcRead_eq_nil_iff (by decide)] at heof
      rw [List.drop_eq_nil_of_le heof]
      exact .nil
    · next hread =>
      rw [eof_iff, srcRead_eq_nil_iff (by decide)] at hread
      have hmoved : pos + 1 ≤ (srcRead file pos Config.chunkMax).2 := by
        simp [srcRead, Config.chunkMax]
        omega
      refine .cons (by simpa using hread) ?_
      have hcut := ih (pos := (srcRead file pos Config.chunkMax).2) (by omega)
      rwa [drop_srcRead] at hcut

/-- The chunks of a file. -/
theorem cutInto_fileChunks (file : List Byte) : CutInto file (fileChunks file) :=
  cutInto_chunksFrom (pos := 0) (by omega)

/-- The chunks together are what was cut. -/
theorem CutInto.flatten (h : CutInto rest cs) : cs.flatten = rest := by
  induction h with
  | nil => rfl
  | cons hne h ih => rw [List.flatten_cons, ih, List.take_append_drop]

/-- `L` bytes are cut into `ceil(L / 32)` chunks. -/
theorem CutInto.length (h : CutInto rest cs) : cs.length = (rest.length + 31) / 32 := by
  induction h with
  | nil => rfl
  | cons hne h ih =>
    have hpos := List.length_pos_iff.2 hne
    rw [List.length_cons, ih, List.length_drop]
    omega

/-- Each chunk is one the block accepts (R108). -/
theorem CutInto.length_mem (h : CutInto rest cs) : ∀ c ∈ cs, 1 ≤ c.length ∧ c.length ≤ 32 := by
  induction h with
  | nil => simp
  | cons hne h ih =>
    have hpos := List.length_pos_iff.2 hne
    refine List.forall_mem_cons.2 ⟨?_, ih⟩
    rw [List.length_take]
    omega

/-- A chunk that others follow is full. -/
theorem CutInto.length_mem_dropLast (h : CutInto rest cs) : ∀ c ∈ cs.dropLast, c.length = 32 := by
  induction h with
  | nil => simp
  | @cons rest cs hne h ih =>
    cases cs with
    | nil => simp
    | cons c cs =>
      have hmore := h.length
      rw [List.length_cons, List.length_drop] at hmore
      rw [List.dropLast_cons_cons]
      refine List.forall_mem_cons.2 ⟨?_, ih⟩
      rw [List.length_take]
      omega

end

/-- Settles O8: a read by the lengths of `take` and `drop`, the chunks of a file as the file cut up. -/
theorem sourceReadsTheFileInChunks : Obligations.SourceReadsTheFileInChunks := by
  intro file
  have hcut := cutInto_fileChunks file
  refine ⟨fun pos n hpos => ⟨rfl, ?_, rfl, ?_⟩, hcut.flatten, hcut.length, hcut.length_mem,
    hcut.length_mem_dropLast, ?_⟩
  · rw [srcRead, List.length_take, List.length_drop]
  · rw [srcRead_eq_nil_iff (by decide)]
    omega
  · simp [srcRead]

/-! ### The operation that comes next completes -/

section
variable {s : State} {i : Instr}

/-- An operation an event selects completes: a READ.CHUNK has 1 to 32 bytes, a SEND has its payload in the buffer. -/
theorem completes_of_select {e : Event} (hbuf : s.chunkLen.toNat ≤ s.chunkBuf.length) (h : select e s = .op i) :
    Completes s i := by
  cases e with
  | chunk c =>
    simp only [select, selectChunk] at h
    split at h
    case h_2 =>
      split at h
      · cases h
      · next hle =>
        split at h
        · cases h; trivial
        · next hne =>
          cases h
          rw [eof_iff] at hne
          exact ⟨List.length_pos_iff.2 hne, not_lt.1 hle⟩
    all_goals cases h
  | send =>
    simp only [select, selectSend] at h
    repeat' split at h
    all_goals cases h
    · trivial
    · exact hbuf
  | _ =>
    simp only [select, selectStart, selectAck, selectTick, pollByte, pollNone] at h
    repeat' split at h
    all_goals cases h
    all_goals trivial

/-- Whether an operation completes does not depend on the schedule. -/
theorem completes_withInputs (l : List Input) : Completes (s.withInputs l) i ↔ Completes s i := by
  cases i <;> exact Iff.rfl

/-- With nothing presented the block performs what `send` selects, if anything (R105). -/
theorem select_send_of_selectNothing (h : selectNothing s = .op i) : select .send s = .op i := by
  unfold selectNothing at h
  split at h
  case h_3 => exact h
  all_goals cases h

/-- An operation the hardware performs next completes, whatever of the environment selects it (R135). -/
theorem completes_of_fetch_op (he : s.envOnly = true) (hbuf : s.chunkLen.toNat ≤ s.chunkBuf.length)
    (h : (fetch s).1 = .op i) : Completes s i := by
  rcases hl : s.inputs with _ | ⟨x, l⟩
  · rw [fetch_nil hl] at h
    exact completes_of_select hbuf (select_send_of_selectNothing h)
  · rw [fetch_cons hl] at h
    cases x with
    | event e => exact completes_of_select hbuf h
    | resetWith e => cases h; trivial
    | arrive b => cases h; trivial
    | bench p b => simp [State.envOnly, hl, Input.isEnv] at he

/-- An operation the hardware performs next is one of R121's table, under its condition. -/
theorem envStep_of_nextOp (he : s.envOnly = true) (hi : BlockInv s) (h : nextOp s = some i) :
    ∃ t, EnvStep (s.withInputs s.inputs.tail) (some i) t := by
  have hop : (fetch s).1 = .op i := Selection.instr?_eq_some_iff.1 h
  have hc : Completes (fetch s).2 i := by
    rw [fetch_state, completes_withInputs]
    exact completes_of_fetch_op he (hi.lenBound.trans hi.bufLength.ge) hop
  have hstep : step s = .next (effect (fetch s).2 i) := by rw [step_of_fetch_op hop, exec_of_completes hc]
  exact ⟨_, h ▸ envStep_of_step he hstep⟩

end

/-! ### Lock-step (R54) -/

section
variable {u t : State} {i : Option Instr}

/-- Frames sent that no byte equal to their id has acknowledged: one in AwaitingAck, and one for good in Failed. -/
def unmatched : Phase → Nat
  | .awaitingAck => 1
  | .failed => 1
  | _ => 0

/-- A SEND leaves one frame unmatched more, a POLL.MATCH one less, and no operation but RESET drops one. -/
theorem EnvStep.sends_add_unmatched (h : EnvStep u i t) (hi : i ≠ some .reset) :
    i.toList.countP isSend + unmatched u.phase = i.toList.countP isMatch + unmatched t.phase := by
  cases h with
  | reset => exact absurd rfl hi
  | _ => simp [*, unmatched, isSend, isMatch]

/-- The operations `l` of a session led to `s`: the frames sent are those matched and the one that is not, if any. -/
structure SentSince (s : State) (l : List Instr) : Prop where
  session : InSession s
  inv : BlockInv s
  sends : l.countP isSend = l.countP isMatch + unmatched s.phase

/-- A step of a session keeps the count of the frames. -/
theorem SentSince.step {l : List Instr} (hu : SentSince u l) (h : step u = .next t) :
    SentSince t (l ++ (nextOp u).toList) := by
  obtain ⟨hsession, hinv, hsends⟩ := hu
  have hstep := envStep_of_step hsession.env h
  have hcount := hstep.sends_add_unmatched hsession.nextOp_ne_reset
  rw [State.withInputs_phase] at hcount
  refine ⟨hsession.step h, hstep.keeps_blockInv (hinv.withInputs _), ?_⟩
  simp only [List.countP_append]
  omega

/-- What `STATE` is, and what the byte is, when an operation of the frame protocol comes next (R70). -/
theorem SentSince.phase_of_nextOp {l : List Instr} (hu : SentSince u l) :
    (nextOp u = some .send → u.phase = .sending) ∧
    ((nextOp u = some .readEof ∨ ∃ c, nextOp u = some (.readChunk c)) → u.phase = .reading) ∧
    (∀ b, nextOp u = some (.pollMatch b) → u.phase = .awaitingAck ∧ b = u.seq) := by
  have hnext : ∀ {i}, nextOp u = some i → ∃ t, EnvStep (u.withInputs u.inputs.tail) (some i) t :=
    envStep_of_nextOp hu.session.env hu.inv
  refine ⟨fun h => ?_, ?_, fun b h => ?_⟩
  · obtain ⟨t, ht⟩ := hnext h
    cases ht with
    | send p hp hpl => exact hp
  · rintro (h | ⟨c, h⟩)
    · obtain ⟨t, ht⟩ := hnext h
      cases ht with
      | readEof hp => exact hp
    · obtain ⟨t, ht⟩ := hnext h
      cases ht with
      | readChunk c hp h1 h2 => exact hp
  · obtain ⟨t, ht⟩ := hnext h
    cases ht with
    | pollMatch b hp hb => exact ⟨hp, hb⟩

end

/-- Settles O56, by induction on the run: every step keeps `SentSince`, and `STATE` tells which operations come next. -/
theorem lockStep : Obligations.LockStep := by
  intro k s t hinv he hn hp hrun
  have h0 : SentSince s [] := ⟨⟨he, hn, by simp [hp]⟩, hinv, by simp [hp, unmatched]⟩
  have ht : SentSince t (opTrace k s) := run_induction (fun _ _ _ hu => hu.step) h0 hrun
  obtain ⟨hsend, hread, hmatch⟩ := ht.phase_of_nextOp
  have hsends := ht.sends
  refine ⟨?_, fun h => ?_, fun h => ?_, fun b h => ?_⟩
  · have hle : unmatched t.phase ≤ 1 := by cases t.phase <;> decide
    omega
  · rwa [hsend h] at hsends
  · rwa [hread h] at hsends
  · obtain ⟨hph, hb⟩ := hmatch b h
    rw [hph] at hsends
    exact ⟨hb, hsends⟩

/-! ### A session under the reference environment (R59) -/

section
variable {s t : State} {c : List Byte} {l : List Input}

/-- A step on an event that selects an operation which completes has the operation's effect. -/
theorem step_event {e : Event} {i : Instr} (hl : s.inputs = .event e :: l) (hsel : select e s = .op i)
    (hc : Completes s i) : step s = .next (effect (s.withInputs l) i) := by
  rw [step_cons hl, selectInput, hsel]
  exact exec_of_completes ((completes_withInputs l).2 hc)

/-- A byte that arrives in RX (R46). -/
theorem step_arrive {b : Byte} (hl : s.inputs = .arrive b :: l) : step s = .next ((s.withInputs l).rxArrive b) :=
  step_cons hl

/-- In Reading a response of 1 to 32 bytes is READ.CHUNK's (R108). -/
theorem step_event_chunk (hp : s.phase = .reading) (h1 : 1 ≤ c.length) (h2 : c.length ≤ 32)
    (hl : s.inputs = .event (.chunk c) :: l) :
    step s = .next ((((s.withInputs l).srcTaken c).loadChunk c).goto .sending) := by
  have hne : c ≠ [] := List.length_pos_iff.1 h1
  exact step_event (i := .readChunk c) hl (by simp [select, selectChunk, hp, hne, Config.chunkMax, h2]) ⟨h1, h2⟩

/-- The payload of a chunk just loaded is the chunk (R19). -/
theorem loadChunk_chunkPayload (h2 : c.length ≤ 32) (hbuf : c.length ≤ s.chunkBuf.length) :
    (s.loadChunk c).chunkPayload = some c := by
  have hlen : (s.loadChunk c).chunkLen.toNat = c.length := chunkLen_exact h2
  have hle : (s.loadChunk c).chunkLen.toNat ≤ (s.loadChunk c).chunkBuf.length := by
    rwa [hlen, State.loadChunk_chunkBuf, overwriteHead_length hbuf]
  rw [chunkPayload_of_le hle, hlen, State.loadChunk_chunkBuf, overwriteHead_take]

/-- In Sending the event `send` frames the payload in `CHUNK_BUF` (R110). -/
theorem step_event_send {p : List Byte} (hp : s.phase = .sending) (hpl : s.chunkPayload = some p)
    (hl : s.inputs = .event .send :: l) :
    step s = .next (((s.withInputs l).txWrite (frameOut s.variant (seqNext s.seq) s.chan p)).incSeq.clearTimer.goto
      .awaitingAck) := by
  obtain ⟨rfl, -, hle⟩ := chunkPayload_eq_some hpl
  exact step_event hl (selectSend_sending hp) hle

/-- In Reading the empty response selects READ.EOF (R109). -/
theorem select_chunk_nil_reading (hp : s.phase = .reading) : select (.chunk []) s = .op .readEof := by
  rw [select, selectChunk, hp]
  rfl

/-- In AwaitingAck the head of RX, equal to `SEQ`, selects POLL.MATCH (R114). -/
theorem select_ack_seq {q : List Byte} (hp : s.phase = .awaitingAck) (hq : s.rx = s.seq :: q) :
    select (.ack s.seq) s = .op (.pollMatch s.seq) := by
  simp [select, selectAck, hp, hq, pollByte]

/-- The state once the chunk `c` was read and sent: one frame more on TX, and the block waits for its id. -/
def State.afterSend (s : State) (c : List Byte) (l : List Input) : State :=
  ((((s.withInputs l).srcTaken c).loadChunk c).txWrite
    (frameOut s.variant (seqNext s.seq) s.chan c)).incSeq.clearTimer.goto .awaitingAck

/-- READ.CHUNK and SEND: the bytes read are the bytes framed. -/
theorem run_chunk_send (hp : s.phase = .reading) (hbuf : s.chunkBuf.length = Config.chunkMax)
    (h1 : 1 ≤ c.length) (h2 : c.length ≤ 32) (hl : s.inputs = .event (.chunk c) :: .event .send :: l) :
    Host.Core.run core 2 s = .next (s.afterSend c l) := by
  have hload : (s.loadChunk c).chunkPayload = some c := loadChunk_chunkPayload h2 (h2.trans_eq hbuf.symm)
  calc Host.Core.run core 2 s
    _ = Host.Core.run core 1 ((((s.withInputs (.event .send :: l)).srcTaken c).loadChunk c).goto .sending) :=
        run_of_next (step_event_chunk hp h1 h2 hl)
    _ = Host.Core.run core 0 (s.afterSend c l) := run_of_next (step_event_send rfl hload rfl)

/-- The state once the id awaited arrived and was taken from RX: the block waits in Reading. -/
def State.afterAck (s : State) (l : List Input) : State := ((s.withInputs l).rxArrive s.seq).rxTake.goto .reading

/-- The id awaited arrives in an empty RX and is taken by POLL.MATCH. -/
theorem run_arrive_ack (hp : s.phase = .awaitingAck) (hrx : s.rx = [])
    (hl : s.inputs = .arrive s.seq :: .event (.ack s.seq) :: l) :
    Host.Core.run core 2 s = .next (s.afterAck l) := by
  have hq : s.rx ++ [s.seq] = [s.seq] := by rw [hrx, List.nil_append]
  calc Host.Core.run core 2 s
    _ = Host.Core.run core 1 ((s.withInputs (.event (.ack s.seq) :: l)).rxArrive s.seq) := run_of_next (step_arrive hl)
    _ = Host.Core.run core 0 (s.afterAck l) :=
        run_of_next (step_event (i := .pollMatch s.seq) rfl (select_ack_seq hp hq) trivial)

/-- The state after a round of the chunk `c` that its own id acknowledged (R75). -/
def State.afterRound (s : State) (c : List Byte) (l : List Input) : State :=
  (s.afterSend c (.arrive (seqNext s.seq) :: .event (.ack (seqNext s.seq)) :: l)).afterAck l

/-- A round under the ideal receiver, with nothing stale in RX, takes four steps. -/
theorem run_round (hp : s.phase = .reading) (hrx : s.rx = []) (hbuf : s.chunkBuf.length = Config.chunkMax)
    (h1 : 1 ≤ c.length) (h2 : c.length ≤ 32) (hl : s.inputs = round c (seqNext s.seq) ++ l) :
    Host.Core.run core 4 s = .next (s.afterRound c l) :=
  run_add (run_chunk_send hp hbuf h1 h2 hl) (run_arrive_ack rfl hrx rfl)

@[simp] theorem State.afterRound_seq : (s.afterRound c l).seq = seqNext s.seq := rfl
@[simp] theorem State.afterRound_variant : (s.afterRound c l).variant = s.variant := rfl
@[simp] theorem State.afterRound_chan : (s.afterRound c l).chan = s.chan := rfl
@[simp] theorem State.afterRound_chunkBuf : (s.afterRound c l).chunkBuf = overwriteHead c s.chunkBuf := rfl
@[simp] theorem State.afterRound_errKind : (s.afterRound c l).errKind = s.errKind := rfl
@[simp] theorem State.afterRound_srcPos : (s.afterRound c l).srcPos = s.srcPos + c.length := rfl
@[simp] theorem State.afterRound_rxTaken : (s.afterRound c l).rxTaken = s.rxTaken + 1 := rfl
@[simp] theorem State.afterRound_tx :
    (s.afterRound c l).tx = s.tx ++ frameOut s.variant (seqNext s.seq) s.chan c := rfl

/-- After a round RX is empty again. -/
theorem State.afterRound_rx (hrx : s.rx = []) : (s.afterRound c l).rx = [] := by
  simp [State.afterRound, State.afterAck, State.afterSend, hrx]

/-- From `s` to `t` the chunks `cs` were delivered: read from the source, framed on TX with ids counting up, and each
acknowledged by one byte taken from RX (R93, R110, R123). -/
structure Delivered (cs : List (List Byte)) (s t : State) : Prop where
  tx : t.tx = s.tx ++ wireImage s.variant s.chan s.seq cs
  srcPos : t.srcPos = s.srcPos + cs.flatten.length
  rxTaken : t.rxTaken = s.rxTaken + cs.length
  seq : t.seq = s.seq + BitVec.ofNat 8 cs.length
  errKind : t.errKind = s.errKind

/-- The end of the file delivers nothing. -/
theorem Delivered.nil : Delivered [] s ((s.withInputs l).goto .done) where
  tx := by simp [wireImage]
  srcPos := rfl
  rxTaken := rfl
  seq := by simp
  errKind := rfl

/-- A round delivers its chunk, and the rounds behind it the rest. -/
theorem Delivered.cons {cs : List (List Byte)} (h : Delivered cs (s.afterRound c l) t) : Delivered (c :: cs) s t := by
  obtain ⟨htx, hpos, htaken, hseq, herr⟩ := h
  constructor
  case tx => simp [htx, wireImage]
  case srcPos => simp [hpos, Nat.add_assoc]
  case rxTaken => rw [htaken, State.afterRound_rxTaken, List.length_cons, Nat.add_right_comm, Nat.add_assoc]
  case seq =>
    rw [hseq, State.afterRound_seq, seqNext, List.length_cons, Nat.add_comm, BitVec.ofNat_add, BitVec.add_assoc]
    rfl
  case errKind => exact herr

/-- From Reading, with nothing stale in RX, the rounds of the ideal receiver and the empty read deliver every chunk and
end in Done: four steps a chunk and one for the end of the file. -/
theorem run_idealRounds {cs : List (List Byte)} (hcs : ∀ c ∈ cs, 1 ≤ c.length ∧ c.length ≤ 32)
    (hp : s.phase = .reading) (hrx : s.rx = []) (hbuf : s.chunkBuf.length = Config.chunkMax)
    (hl : s.inputs = idealRounds s.seq cs) :
    ∃ t : State, Host.Core.run core (4 * cs.length + 1) s = .next t ∧
      t.phase = .done ∧ t.inputs = [] ∧ t.rx = [] ∧ Delivered cs s t := by
  induction cs generalizing s with
  | nil =>
    have hstep := step_event hl (select_chunk_nil_reading hp) trivial
    exact ⟨_, run_of_next hstep, rfl, rfl, hrx, .nil⟩
  | cons c cs ih =>
    obtain ⟨⟨h1, h2⟩, hcs⟩ := List.forall_mem_cons.1 hcs
    have hbuf' : (overwriteHead c s.chunkBuf).length = Config.chunkMax :=
      (overwriteHead_length (h2.trans_eq hbuf.symm)).trans hbuf
    have hround := run_round hp hrx hbuf h1 h2 hl
    obtain ⟨t, hrun, hdone, hinputs, hrx', hdel⟩ :=
      ih hcs (s := s.afterRound c (idealRounds (seqNext s.seq) cs)) rfl (State.afterRound_rx hrx) hbuf' rfl
    refine ⟨t, ?_, hdone, hinputs, hrx', hdel.cons⟩
    have hall := run_add hround hrun
    rwa [← Nat.add_assoc, Nat.add_comm 4, ← Nat.mul_succ] at hall

end

/-- Settles O57: START leads to Reading with `SEQ` 0, and the rounds from there deliver the chunks of the file. -/
theorem idealSessionDeliversTheFile : Obligations.IdealSessionDeliversTheFile := by
  intro v ch b file s hinv hp hrx hl
  have hcut := cutInto_fileChunks file
  have hstart := step_event (i := .start v ch b) hl (by simp [select, selectStart, hp]) trivial
  obtain ⟨t, hrun, hdone, hinputs, hrx', hdel⟩ := run_idealRounds hcut.length_mem
    (s := effect (s.withInputs (idealRounds 0 (fileChunks file))) (.start v ch b)) rfl hrx hinv.bufLength rfl
  obtain ⟨htx, hpos, htaken, hseq, herr⟩ := hdel
  obtain ⟨hnone, -⟩ := hinv.noError (by simp [hp])
  refine ⟨t, (run_of_next hstart).trans hrun, hdone, hinputs, htx, ?_, hrx', htaken, ?_, herr.trans hnone⟩
  · rw [hpos, hcut.flatten]
    rfl
  · rw [hseq]
    exact BitVec.zero_add _

end Sys2Proof.Machine

/-! SUPPORT. The decoder and the encoder of images: what a reader makes of its own image and what it can accept (R61 to R63,
R108, log 4), the header as an integer (R65), wire units on their streams, and decoded images as steps. -/

namespace Sys2Proof

/-! ### Well-formedness, as propositions -/

/-- The payloads a frame format holds (R68). -/
theorem framePayloadOk_iff {p : List Byte} : framePayloadOk p = true ↔ p.length ≤ 255 := decide_eq_true_iff

/-- The payloads the encoder's length input can express (R80). -/
theorem encPayloadOk_iff {p : List Byte} : encPayloadOk p = true ↔ p.length ≤ 511 := decide_eq_true_iff

/-- The chunks READ.CHUNK takes (R108). -/
theorem chunkOk_iff {c : List Byte} : chunkOk c = true ↔ 1 ≤ c.length ∧ c.length ≤ 32 := by
  rw [chunkOk, Bool.and_eq_true, decide_eq_true_iff, decide_eq_true_iff, Config.chunkMax]

/-! ### Operands and their images -/

/-- A length byte holds every length up to 255 (R64). -/
theorem toNat_lengthByte {n : Nat} (h : n ≤ 255) : (BitVec.ofNat 8 n).toNat = n :=
  Nat.mod_eq_of_lt (Nat.lt_succ_of_le h)

/-- A payload of at most 255 bytes is taken by its own length byte (R64, R66). -/
theorem takeBytes_lengthByte {p : List Byte} (h : p.length ≤ 255) (rest : List Byte) :
    takeBytes (BitVec.ofNat 8 p.length).toNat (p ++ rest) = .ok (p, rest) := by
  rw [toNat_lengthByte h, takeBytes_append]

/-- A variant is read back from its bit (R15). -/
theorem variantOf_bit (v : Variant) : variantOf v.bit = some v := by cases v <;> rfl

/-- A tick count is the concatenation of its four bytes. -/
theorem ticksOf_extractLsb' (t : Ticks) :
    ticksOf (t.extractLsb' 0 8) (t.extractLsb' 8 8) (t.extractLsb' 16 8) (t.extractLsb' 24 8) = t := by
  have upper : t.extractLsb' 24 8 ++ t.extractLsb' 16 8 = t.extractLsb' 16 16 :=
    BitVec.extractLsb'_append_extractLsb'_eq_extractLsb' rfl
  have upper' : t.extractLsb' 16 16 ++ t.extractLsb' 8 8 = t.extractLsb' 8 24 :=
    BitVec.extractLsb'_append_extractLsb'_eq_extractLsb' rfl
  rw [ticksOf, upper, upper']
  exact BitVec.extractLsb'_append_extractLsb'

/-- The upper byte of a 9-bit length is 0 or 1 (R80). -/
theorem upperByte_le_one (n : Len9) : (n.extractLsb' 8 1).setWidth 8 ≤ (1 : Byte) := by
  rw [BitVec.le_def, BitVec.toNat_setWidth_of_le (by decide)]
  exact Nat.le_of_lt_succ (n.extractLsb' 8 1).isLt

/-- A 9-bit length is read back from its two bytes (R80). -/
theorem len9_of_bytes (n : Len9) :
    ((n.extractLsb' 8 1).setWidth 8 ++ n.extractLsb' 0 8 : BitVec 16).setWidth 9 = n := by
  rw [BitVec.setWidth_append, dif_neg (by decide), BitVec.cast_eq, BitVec.setWidth_setWidth_of_le _ (by decide),
    BitVec.setWidth_eq]
  exact BitVec.extractLsb'_append_extractLsb'

/-- An encoder payload of at most 511 bytes is read back from its image (R80). -/
theorem readPayload_payloadImage {p : List Byte} (h : p.length ≤ 511) (rest : List Byte) :
    readPayload (payloadImage p ++ rest) = .ok (p, rest) := by
  have hupper : (BitVec.ofNat 8 (p.length / 256)).toNat = p.length / 256 := toNat_lengthByte (by omega)
  have hle : BitVec.ofNat 8 (p.length / 256) ≤ 1 := by
    rw [BitVec.le_def, hupper]
    change p.length / 256 ≤ 1
    omega
  have hlen : (BitVec.ofNat 8 p.length).toNat + 256 * (BitVec.ofNat 8 (p.length / 256)).toNat = p.length := by
    rw [hupper]
    exact Nat.mod_add_div p.length 256
  simp only [payloadImage, List.cons_append, readPayload, hle, if_true, hlen, takeBytes_append]

/-! ### Each reader on its own image -/

/-- A frame of variant A is read back (R61). -/
theorem readFrameA_encode {p : List Byte} (h : p.length ≤ 255) (seq : Byte) (rest : List Byte) :
    readFrameA (encode (.frameA seq p) ++ rest) = .ok (.frameA seq p, rest) := by
  simp only [encode, List.cons_append, readFrameA, and_self, if_true, takeBytes_lengthByte h]
  rfl

/-- A frame of variant B is read back (R62). -/
theorem readFrameB_encode {p : List Byte} (h : p.length ≤ 255) (seq chan : Byte) (rest : List Byte) :
    readFrameB (encode (.frameB seq chan p) ++ rest) = .ok (.frameB seq chan p, rest) := by
  simp only [encode, List.cons_append, readFrameB, and_self, if_true, takeBytes_lengthByte h]
  rfl

/-- START's operands are read back (R106). -/
theorem readStart_operands (v : Variant) (c : Byte) (t : Ticks) (rest : List Byte) :
    readStart (v.bit :: c :: (ticksBytes t ++ rest)) = .ok (.start v c t, rest) := by
  simp only [ticksBytes, List.cons_append, List.nil_append, readStart, variantOf_bit, ticksOf_extractLsb']

/-- A chunk of 1 to 32 bytes is read back as READ.CHUNK (R108). -/
theorem readChunkOperand_chunk {c : List Byte} (h1 : 1 ≤ c.length) (h2 : c.length ≤ 32) (rest : List Byte) :
    readChunkOperand (BitVec.ofNat 8 c.length :: (c ++ rest)) = .ok (.readChunk c, rest) := by
  have hlen : (BitVec.ofNat 8 c.length).toNat = c.length := toNat_lengthByte (by omega)
  have hne : BitVec.ofNat 8 c.length ≠ 0 := fun h0 => by simp [h0] at hlen; omega
  rw [readChunkOperand, if_neg hne, hlen, if_pos (show c.length ≤ Config.chunkMax from h2), takeBytes_append]
  rfl

/-- ENC's operands are read back, in either variant (R80). -/
theorem readEncOperands_operands {p : List Byte} (h : p.length ≤ 511) (seq chan : Byte) (rest : List Byte) :
    readEncOperands .a (seq :: chan :: (payloadImage p ++ rest)) = .ok (.encA seq chan p, rest) ∧
      readEncOperands .b (seq :: chan :: (payloadImage p ++ rest)) = .ok (.encB seq chan p, rest) := by
  constructor <;> rw [readEncOperands, readPayload_payloadImage h] <;> rfl

/-- GUARD's operand is read back (R80, R81). -/
theorem readGuardOperand_operand (v : Variant) (n : Len9) (rest : List Byte) :
    readGuardOperand v (n.extractLsb' 0 8 :: (n.extractLsb' 8 1).setWidth 8 :: rest) = .ok (.guard v n, rest) := by
  rw [readGuardOperand, if_pos (upperByte_le_one n), len9_of_bytes]

/-- GUARD's operation byte carries the variant bit (R72). -/
theorem lookupOp_guard (v : Variant) : lookupOp (0x48 ||| v.bit) = some (.guard v) := by cases v <;> rfl

/-- An image at the operation port is read by the operands of its operation byte's row. -/
theorem decode_op_cons {b : Byte} {k : OpKind} {s : List Byte} {r : Except DecodeError (Instr × List Byte)}
    (hb : lookupOp b = some k) (hr : readOperands k s = r) : decode .op (b :: s) = r := by
  rw [decode, readOp, hb]
  exact hr

/-- Settles O45, by the operation: where an image has operands, its reader gives them back; the other images are evaluated. -/
theorem decodeOfEncodeIsTheOperation : Obligations.DecodeOfEncodeIsTheOperation := by
  intro i rest h
  cases i with
  | frameA seq p => exact readFrameA_encode (framePayloadOk_iff.1 h) seq rest
  | frameB seq chan p => exact readFrameB_encode (framePayloadOk_iff.1 h) seq chan rest
  | start v c t => exact decode_op_cons (k := .start) rfl (readStart_operands v c t rest)
  | readChunk c =>
    obtain ⟨h1, h2⟩ := chunkOk_iff.1 h
    exact decode_op_cons (k := .read) rfl (readChunkOperand_chunk h1 h2 rest)
  | encA seq chan p =>
    exact decode_op_cons (k := .enc .a) rfl (readEncOperands_operands (encPayloadOk_iff.1 h) seq chan rest).1
  | encB seq chan p =>
    exact decode_op_cons (k := .enc .b) rfl (readEncOperands_operands (encPayloadOk_iff.1 h) seq chan rest).2
  | guard v n => exact decode_op_cons (lookupOp_guard v) (readGuardOperand_operand v n rest)
  | _ => rfl

/-! ### What each reader accepts -/

/-- A reader's answer is a rejection or a well-formed operation. -/
def OnlyWf (r : Except DecodeError (Instr × List Byte)) : Prop := ∀ x, r = .ok x → x.1.wf = true

@[simp] theorem onlyWf_error (e : DecodeError) : OnlyWf (.error e) := fun _ h => nomatch h

@[simp] theorem onlyWf_ok (x : Instr × List Byte) : OnlyWf (.ok x) ↔ x.1.wf = true := by simp [OnlyWf]

/-- An operation made of the bytes taken is to be well-formed only where they are there to take. -/
theorem onlyWf_map {r : Except DecodeError (List Byte × List Byte)} {f : List Byte × List Byte → Instr × List Byte}
    (h : ∀ x, r = .ok x → (f x).1.wf = true) : OnlyWf (r.map f) := by
  cases r with
  | error e => exact onlyWf_error e
  | ok x => exact (onlyWf_ok _).2 (h x rfl)

/-- A payload taken has the length asked for. -/
theorem length_of_takeBytes {n : Nat} {s : List Byte} {x : List Byte × List Byte} (h : takeBytes n s = .ok x) :
    x.1.length = n := (takeBytes_ok_iff.1 h).2

/-- A payload taken by a length byte has at most 255 bytes (R68). -/
theorem framePayloadOk_of_takeBytes {n : Byte} {s : List Byte} {x : List Byte × List Byte}
    (h : takeBytes n.toNat s = .ok x) : framePayloadOk x.1 = true :=
  framePayloadOk_iff.2 (length_of_takeBytes h ▸ Nat.le_of_lt_succ n.isLt)

/-- A payload read by two length bytes has at most 511 bytes (R80). -/
theorem encPayloadOk_of_readPayload {s : List Byte} {x : List Byte × List Byte} (h : readPayload s = .ok x) :
    encPayloadOk x.1 = true := by
  unfold readPayload at h
  split at h
  · next lo hi s =>
    split at h
    · next hle =>
      have hhi : hi.toNat ≤ 1 := hle
      have hlen := length_of_takeBytes h
      exact encPayloadOk_iff.2 (by omega)
    · cases h
  · cases h

theorem readFrameA_onlyWf (s : List Byte) : OnlyWf (readFrameA s) := by
  unfold readFrameA
  split
  · split
    · exact onlyWf_map fun _ hx => framePayloadOk_of_takeBytes hx
    · exact onlyWf_error _
  · exact onlyWf_error _

theorem readFrameB_onlyWf (s : List Byte) : OnlyWf (readFrameB s) := by
  unfold readFrameB
  split
  · split
    · exact onlyWf_map fun _ hx => framePayloadOk_of_takeBytes hx
    · exact onlyWf_error _
  · exact onlyWf_error _

theorem readAck_onlyWf (s : List Byte) : OnlyWf (readAck s) := by
  cases s <;> simp [readAck, Instr.wf]

theorem readStart_onlyWf (s : List Byte) : OnlyWf (readStart s) := by
  unfold readStart
  split
  · split <;> simp [Instr.wf]
  · exact onlyWf_error _

/-- A chunk taken behind a length byte of 1 to 32 is a chunk of READ.CHUNK (R108). -/
theorem readChunkOperand_onlyWf (s : List Byte) : OnlyWf (readChunkOperand s) := by
  unfold readChunkOperand
  split
  · next n s =>
    split
    · exact (onlyWf_ok _).2 rfl
    · next hne =>
      split
      · next hle =>
        refine onlyWf_map fun x hx => chunkOk_iff.2 ?_
        rw [length_of_takeBytes hx]
        exact ⟨Nat.pos_of_ne_zero fun h0 => hne (BitVec.eq_of_toNat_eq h0), hle⟩
      · exact onlyWf_error _
  · exact onlyWf_error _

theorem readByteOperand_onlyWf {f : Byte → Instr} (hf : ∀ b, (f b).wf = true) (s : List Byte) :
    OnlyWf (readByteOperand f s) := by
  cases s <;> simp [readByteOperand, hf]

theorem readEncOperands_onlyWf (v : Variant) (s : List Byte) : OnlyWf (readEncOperands v s) := by
  unfold readEncOperands
  split
  · refine onlyWf_map fun x hx => ?_
    cases v <;> exact encPayloadOk_of_readPayload hx
  · exact onlyWf_error _

theorem readGuardOperand_onlyWf (v : Variant) (s : List Byte) : OnlyWf (readGuardOperand v s) := by
  unfold readGuardOperand
  split
  · split <;> simp [Instr.wf]
  · exact onlyWf_error _

/-- The operands of every row of the operation-byte table make a well-formed operation (log 4). -/
theorem readOperands_onlyWf (k : OpKind) (s : List Byte) : OnlyWf (readOperands k s) := by
  cases k with
  | start => exact readStart_onlyWf s
  | read => exact readChunkOperand_onlyWf s
  | pollMatch => exact readByteOperand_onlyWf (fun _ => rfl) s
  | pollMismatch => exact readByteOperand_onlyWf (fun _ => rfl) s
  | ackCmp => exact readByteOperand_onlyWf (fun _ => rfl) s
  | enc v => exact readEncOperands_onlyWf v s
  | guard v => exact readGuardOperand_onlyWf v s
  | _ => exact (onlyWf_ok _).2 rfl

theorem readOp_onlyWf (s : List Byte) : OnlyWf (readOp s) := by
  unfold readOp
  split
  · exact onlyWf_error _
  · split
    · exact readOperands_onlyWf _ _
    · exact onlyWf_error _

/-- Settles O46, by the port: each port's reader accepts well-formed operations only. -/
theorem decodedOperationsAreWellFormed : Obligations.DecodedOperationsAreWellFormed := by
  intro p b rest i h
  cases p with
  | txA => exact readFrameA_onlyWf b _ h
  | txB => exact readFrameB_onlyWf b _ h
  | rx => exact readAck_onlyWf b _ h
  | op => exact readOp_onlyWf b _ h

end Sys2Proof

namespace Sys2Proof.Machine

/-! ### The header as one little-endian integer (R65) -/

/-- A concatenation as a number: the lower part and the upper part above it. -/
theorem toNat_append_add {m n : Nat} (x : BitVec m) (y : BitVec n) : (x ++ y).toNat = y.toNat + 2 ^ n * x.toNat := by
  rw [BitVec.toNat_append, Nat.shiftLeft_eq, Nat.mul_comm, ← Nat.two_pow_add_eq_or_of_lt y.isLt, Nat.add_comm]

theorem toNat_magic : Config.magic.toNat = 0xEF + 256 * 0xBE := rfl

/-- The header bytes of variant A are the little-endian bytes of the header integer (R61, R65). -/
theorem leNat_headerBytes_a (seq chan n : Byte) : leNat (headerBytes .a seq chan n) = (headerIntA seq n).toNat := by
  simp only [headerBytes, leNat, headerIntA, toNat_append_add, toNat_magic, lo8_magic, hi8_magic, BitVec.toNat_ofNat]
  omega

/-- The header bytes of variant B are the little-endian bytes of the header integer (R62, R65). -/
theorem leNat_headerBytes_b (seq chan n : Byte) :
    leNat (headerBytes .b seq chan n) = (headerIntB seq chan n).toNat := by
  simp only [headerBytes, leNat, headerIntB, toNat_append_add, toNat_magic, lo8_magic, hi8_magic, BitVec.toNat_ofNat]
  omega

/-- A frame begins with its header (R66). -/
theorem take_of_encodeFrame {v : Variant} {seq chan : Byte} {p f : List Byte} (h : encodeFrame v seq chan p = some f) :
    f.take (Config.hdrLen v) = headerBytes v seq chan (BitVec.ofNat 8 p.length) := by
  obtain ⟨-, rfl⟩ := encodeFrame_eq_some h
  exact List.take_left' (headerBytes_length v seq chan _)

/-- A mask of ones on the lower part keeps the lower part. -/
theorem append_and_lowerMask {m n : Nat} (x : BitVec m) (y : BitVec n) :
    (x ++ y) &&& (0#m ++ BitVec.allOnes n) = 0#m ++ y := by
  rw [BitVec.and_append, BitVec.and_zero, BitVec.and_allOnes]

/-- The lowest 16 bits of WIRE_A's header are `MAGIC` (R65, R41). -/
theorem headerIntA_mask (seq n : Byte) : headerIntA seq n &&& 0x0000FFFF = 0x0000BEEF :=
  append_and_lowerMask (n ++ seq) Config.magic

/-- The lowest 16 bits of WIRE_B's header are `MAGIC` (R65, R41). -/
theorem headerIntB_mask (seq chan n : Byte) : headerIntB seq chan n &&& 0x000000FFFF = 0x000000BEEF :=
  append_and_lowerMask (n ++ chan ++ seq) Config.magic

/-- The fields of WIRE_A's header stand above `MAGIC`, `sequence_id` lowest (R65). -/
theorem headerIntA_fields (seq n : Byte) :
    (headerIntA seq n).extractLsb' 16 8 = seq ∧ (headerIntA seq n).extractLsb' 24 8 = n := by
  have above (k : Nat) (hk : 16 ≤ k) : (headerIntA seq n).extractLsb' k 8 = (n ++ seq).extractLsb' (k - 16) 8 :=
    BitVec.extractLsb'_append_eq_of_le hk
  exact ⟨(above 16 (by decide)).trans BitVec.extractLsb'_append_eq_right,
    (above 24 (by decide)).trans BitVec.extractLsb'_append_eq_left⟩

/-- The fields of WIRE_B's header stand above `MAGIC`, `sequence_id` lowest (R65). -/
theorem headerIntB_fields (seq chan n : Byte) :
    (headerIntB seq chan n).extractLsb' 16 8 = seq ∧ (headerIntB seq chan n).extractLsb' 24 8 = chan ∧
      (headerIntB seq chan n).extractLsb' 32 8 = n := by
  have above (k : Nat) (hk : 16 ≤ k) :
      (headerIntB seq chan n).extractLsb' k 8 = (n ++ chan ++ seq).extractLsb' (k - 16) 8 :=
    BitVec.extractLsb'_append_eq_of_le hk
  have aboveSeq (k : Nat) (hk : 8 ≤ k) : (n ++ chan ++ seq).extractLsb' k 8 = (n ++ chan).extractLsb' (k - 8) 8 :=
    BitVec.extractLsb'_append_eq_of_le hk
  exact ⟨(above 16 (by decide)).trans BitVec.extractLsb'_append_eq_right,
    (above 24 (by decide)).trans ((aboveSeq 8 (by decide)).trans BitVec.extractLsb'_append_eq_right),
    (above 32 (by decide)).trans ((aboveSeq 16 (by decide)).trans BitVec.extractLsb'_append_eq_left)⟩

/-- Settles O38, from the header integer's bytes, mask and fields; the length byte is exact since the frame exists. -/
theorem headerIntegersMatchTheTable : Obligations.HeaderIntegersMatchTheTable := by
  intro seq chan p f
  constructor
  · intro h
    obtain ⟨hp, -⟩ := encodeFrame_eq_some h
    obtain ⟨hseq, hlen⟩ := headerIntA_fields seq (BitVec.ofNat 8 p.length)
    exact ⟨(congrArg leNat (take_of_encodeFrame h)).trans (leNat_headerBytes_a seq chan _), headerIntA_mask seq _, hseq,
      (congrArg BitVec.toNat hlen).trans (toNat_lengthByte hp)⟩
  · intro h
    obtain ⟨hp, -⟩ := encodeFrame_eq_some h
    obtain ⟨hseq, hchan, hlen⟩ := headerIntB_fields seq chan (BitVec.ofNat 8 p.length)
    exact ⟨(congrArg leNat (take_of_encodeFrame h)).trans (leNat_headerBytes_b seq chan _), headerIntB_mask seq chan _,
      hseq, hchan, (congrArg BitVec.toNat hlen).trans (toNat_lengthByte hp)⟩

/-! ### Wire units, written-out words, and decoded images as steps -/

/-- Settles O43: each unit completes, and its effect is the append to its stream. -/
theorem wireUnitsGoToTheirStreams : Obligations.WireUnitsGoToTheirStreams := by
  intro seq chan p s
  refine ⟨fun h => ?_, fun h => ?_, rfl⟩
  · rw [exec_of_completes (i := .frameA seq p) h, effect, frameOut_of_le h]
    rfl
  · rw [exec_of_completes (i := .frameB seq chan p) h, effect, frameOut_of_le h]
    rfl

/-- Settles O44: each word is decoded by evaluation. -/
theorem writtenOutWordsDecode : Obligations.WrittenOutWordsDecode :=
  ⟨rfl, rfl, rfl, rfl, rfl, rfl, rfl⟩

/-- A step on a bench image runs the operation the image is decoded to (log 6). -/
theorem step_bench {s : State} {p : Port} {b rest : List Byte} {i : Instr} {l : List Input}
    (hl : s.inputs = .bench p b :: l) (h : decode p b = .ok (i, rest)) : step s = exec i (s.withInputs l) := by
  rw [step_cons hl, selectInput, h]

/-- The operation of a table word is what the decoder finds at the head of the word's bytes (log 5). -/
theorem decode_of_decodeTableWord {nbits w : Nat} {i : Instr} (h : decodeTableWord nbits w = some i) :
    ∃ rest, decode (tablePort nbits) (tableBytes nbits w) = .ok (i, rest) := by
  unfold decodeTableWord at h
  split at h
  · next x hx =>
    cases h
    exact ⟨x.2, hx⟩
  · cases h

/-- Settles O48: a placed table word is a bench image at the head of the schedule. -/
theorem stepRunsTheDecodedOperation : Obligations.StepRunsTheDecodedOperation := by
  intro s i p b rest l nbits w
  refine ⟨step_bench, fun h => ?_⟩
  obtain ⟨rest', hdec⟩ := decode_of_decodeTableWord h
  exact step_bench (s := s.withFetchWord nbits w) rfl hdec

end Sys2Proof.Machine

/-! SUPPORT. The frame encoder: the length law and the byte-serial view (R85, R86), the reference decode of its frames (R87,
R88), and the outputs of ENC.A, ENC.B and GUARD (R81 to R83). -/

namespace Sys2Proof.Machine

/-! ### Lengths and bytes of a frame (R85, R86) -/

section
variable {v : Variant} {seq chan : Byte} {p f : List Byte}

/-- The length law (R86). -/
theorem length_of_encodeFrame (h : encodeFrame v seq chan p = some f) : f.length = Config.hdrLen v + p.length := by
  obtain ⟨-, rfl⟩ := encodeFrame_eq_some h
  rw [List.length_append, headerBytes_length]

/-- A header has 4 or 5 bytes (R61, R62). -/
theorem hdrLen_bounds (v : Variant) : 4 ≤ Config.hdrLen v ∧ Config.hdrLen v ≤ 5 := by
  cases v <;> decide

/-- Header and payload, byte by byte, are the byte-serial view (R85). -/
theorem byteAt_header_append (v : Variant) (seq chan : Byte) (p : List Byte) (i : Nat) :
    byteAt (headerBytes v seq chan (lengthField p.length) ++ p) i = frameByte v seq chan p i := by
  cases v with
  | a =>
    match i with
    | 0 | 1 | 2 | 3 | _ + 4 => rfl
  | b =>
    match i with
    | 0 | 1 | 2 | 3 | 4 | _ + 5 => rfl

/-- Byte `i` of a frame is `frame_byte(i)` (R85). -/
theorem byteAt_of_encodeFrame (h : encodeFrame v seq chan p = some f) (i : Nat) :
    byteAt f i = frameByte v seq chan p i := by
  obtain ⟨-, rfl⟩ := encodeFrame_eq_some h
  exact byteAt_header_append v seq chan p i

/-- The last header byte is the payload's length (R64). -/
theorem frameByte_lengthField (v : Variant) (seq chan : Byte) (p : List Byte) :
    frameByte v seq chan p (Config.hdrLen v - 1) = lengthField p.length := by
  cases v <;> rfl

/-- The frame output is the frame the encoder makes. -/
theorem frameOut_of_encodeFrame (h : encodeFrame v seq chan p = some f) : frameOut v seq chan p = f := by
  rw [frameOut, h, Option.getD_some]

end

/-- The first `n` bytes of a sequence are its bytes 0 to `n - 1`. -/
theorem map_byteAt_range {f : List Byte} {n : Nat} (hn : n ≤ f.length) :
    (List.range n).map (byteAt f) = f.take n := by
  refine List.ext_getElem (by simp [hn]) fun i h _ => ?_
  have hi : i < n := by simpa using h
  rw [List.getElem_map, List.getElem_range, List.getElem_take, byteAt, List.getD_eq_getElem _ _ (hi.trans_le hn)]

/-- Settles O34: the header has at most 5 bytes and a framed payload at most 255. -/
theorem frameLengthIsHeaderPlusPayload : Obligations.FrameLengthIsHeaderPlusPayload := by
  intro v seq chan p f h
  obtain ⟨hp, -⟩ := encodeFrame_eq_some h
  obtain ⟨-, hhdr⟩ := hdrLen_bounds v
  have hlen := length_of_encodeFrame h
  have hle : f.length ≤ 260 := by omega
  refine ⟨?_, hle, Nat.mod_eq_of_lt (show f.length < 512 by omega)⟩
  cases v <;> exact hlen

/-- Settles O35: byte by byte a frame is the byte-serial view, and it is not empty, so it has one last byte. -/
theorem byteSerialViewAgreesWithTheFrame : Obligations.ByteSerialViewAgreesWithTheFrame := by
  intro v seq chan p f h
  constructor
  · rw [← funext (byteAt_of_encodeFrame h), map_byteAt_range le_rfl, List.take_length]
  · intro i
    obtain ⟨hhdr, -⟩ := hdrLen_bounds v
    have hlen := length_of_encodeFrame h
    rw [frameLast, frameOut_of_encodeFrame h, decide_eq_true_iff]
    omega

/-! ### The reference decode (R87, R88) -/

/-- The channel a frame carries: none in variant A (R67). -/
def carriedChan (v : Variant) (chan : Byte) : Option Byte :=
  match v with
  | .a => none
  | .b => some chan

/-- The bytes begin `EF BE` (R41, R68). -/
def BeginsWithMagic (b : List Byte) : Prop := byteAt b 0 = 0xEF ∧ byteAt b 1 = 0xBE

/-- The length that the header's last byte tells (R66). -/
def toldLength (v : Variant) (b : List Byte) : Nat := Config.hdrLen v + (byteAt b (Config.hdrLen v - 1)).toNat

section
variable {v : Variant} {b : List Byte}

/-- The decoder's test for the magic: one of the two bytes differs. -/
theorem not_beginsWithMagic_iff : ¬ BeginsWithMagic b ↔ byteAt b 0 ≠ 0xEF#8 ∨ byteAt b 1 ≠ 0xBE#8 := not_and_or

/-- Too few bytes for a header (R87: Short). -/
theorem referenceDecode_of_short (h : b.length < Config.hdrLen v) : referenceDecode v b = .error .short := if_pos h

/-- A whole header that does not begin `EF BE` (R87: BadMagic). -/
theorem referenceDecode_of_badMagic (h : Config.hdrLen v ≤ b.length) (hm : ¬ BeginsWithMagic b) :
    referenceDecode v b = .error .badMagic :=
  (if_neg h.not_gt).trans (if_pos (not_beginsWithMagic_iff.1 hm))

/-- Another length than the header tells (R87: BadLength). -/
theorem referenceDecode_of_badLength (h : Config.hdrLen v ≤ b.length) (hm : BeginsWithMagic b)
    (hl : b.length ≠ toldLength v b) : referenceDecode v b = .error .badLength :=
  (if_neg h.not_gt).trans ((if_neg (mt not_beginsWithMagic_iff.2 (not_not.2 hm))).trans (if_pos hl))

/-- Otherwise the fields at their places (R87). -/
theorem referenceDecode_of_frame (h : Config.hdrLen v ≤ b.length) (hm : BeginsWithMagic b)
    (hl : b.length = toldLength v b) :
    referenceDecode v b = .ok (byteAt b 2, carriedChan v (byteAt b 3), b.drop (Config.hdrLen v)) :=
  (if_neg h.not_gt).trans ((if_neg (mt not_beginsWithMagic_iff.2 (not_not.2 hm))).trans (if_neg (not_not.2 hl)))

/-- The four outcomes of the reference decode, each with its reason (R87). -/
theorem referenceDecode_cases (v : Variant) (b : List Byte) :
    (b.length < Config.hdrLen v ∧ referenceDecode v b = .error .short) ∨
    (Config.hdrLen v ≤ b.length ∧ ¬ BeginsWithMagic b ∧ referenceDecode v b = .error .badMagic) ∨
    (Config.hdrLen v ≤ b.length ∧ BeginsWithMagic b ∧ b.length ≠ toldLength v b ∧
      referenceDecode v b = .error .badLength) ∨
    (Config.hdrLen v ≤ b.length ∧ BeginsWithMagic b ∧ b.length = toldLength v b ∧
      referenceDecode v b = .ok (byteAt b 2, carriedChan v (byteAt b 3), b.drop (Config.hdrLen v))) := by
  obtain h | h := Nat.lt_or_ge b.length (Config.hdrLen v)
  · exact .inl ⟨h, referenceDecode_of_short h⟩
  · by_cases hm : BeginsWithMagic b
    · by_cases hl : b.length = toldLength v b
      · exact .inr (.inr (.inr ⟨h, hm, hl, referenceDecode_of_frame h hm hl⟩))
      · exact .inr (.inr (.inl ⟨h, hm, hl, referenceDecode_of_badLength h hm hl⟩))
    · exact .inr (.inl ⟨h, hm, referenceDecode_of_badMagic h hm⟩)

/-- Each error is the answer exactly where its reason holds: the four outcomes exclude each other (R87). -/
theorem referenceDecode_eq_error_iff (v : Variant) (b : List Byte) :
    (referenceDecode v b = .error .short ↔ b.length < Config.hdrLen v) ∧
    (referenceDecode v b = .error .badMagic ↔ Config.hdrLen v ≤ b.length ∧ ¬ BeginsWithMagic b) ∧
    (referenceDecode v b = .error .badLength ↔
      Config.hdrLen v ≤ b.length ∧ BeginsWithMagic b ∧ b.length ≠ toldLength v b) := by
  obtain ⟨h, hr⟩ | ⟨h, hm, hr⟩ | ⟨h, hm, hl, hr⟩ | ⟨h, hm, hl, hr⟩ := referenceDecode_cases v b
  · simp [hr, h]
  · simp [hr, h, hm]
  · simp [hr, h, hm, hl]
  · simp [hr, h, hm, ← hl]

/-- Bytes that begin with the magic and hold a whole header are that header and what follows it (R61, R62). -/
theorem header_append_drop (h : Config.hdrLen v ≤ b.length) (hm : BeginsWithMagic b) :
    headerBytes v (byteAt b 2) (byteAt b 3) (byteAt b (Config.hdrLen v - 1)) ++ b.drop (Config.hdrLen v) = b := by
  obtain ⟨h0, h1⟩ := hm
  have hhead : headerBytes v (byteAt b 2) (byteAt b 3) (byteAt b (Config.hdrLen v - 1)) =
      (List.range (Config.hdrLen v)).map (byteAt b) := by
    cases v with
    | a =>
      change _ = [byteAt b 0, byteAt b 1, byteAt b 2, byteAt b 3]
      rw [h0, h1]
      rfl
    | b =>
      change _ = [byteAt b 0, byteAt b 1, byteAt b 2, byteAt b 3, byteAt b 4]
      rw [h0, h1]
      rfl
  rw [hhead, map_byteAt_range h, List.take_append_drop]

end

section
variable {v : Variant} {seq chan : Byte} {p f : List Byte}

/-- The reference decode of a frame recovers what went into it (R88). -/
theorem referenceDecode_of_encodeFrame (h : encodeFrame v seq chan p = some f) :
    referenceDecode v f = .ok (seq, carriedChan v chan, p) := by
  obtain ⟨hp, hf⟩ := encodeFrame_eq_some h
  have hbyte := byteAt_of_encodeFrame h
  have hlen := length_of_encodeFrame h
  have htold : toldLength v f = Config.hdrLen v + p.length := by
    rw [toldLength, hbyte, frameByte_lengthField, lengthField, toNat_lengthByte hp]
  have hdrop : f.drop (Config.hdrLen v) = p := by
    rw [hf, List.drop_left' (headerBytes_length v seq chan _)]
  rw [referenceDecode_of_frame (by omega) ⟨hbyte 0, hbyte 1⟩ (hlen.trans htold.symm), hbyte, hbyte, hdrop]
  cases v <;> rfl

/-- What the reference decode accepts is the frame of what it answers; in variant A any channel makes it (R87, R67). -/
theorem encodeFrame_of_referenceDecode {b : List Byte} {c : Option Byte} (h : referenceDecode v b = .ok (seq, c, p)) :
    ∃ chan, encodeFrame v seq chan p = some b ∧ c = carriedChan v chan := by
  obtain ⟨-, hr⟩ | ⟨-, -, hr⟩ | ⟨-, -, -, hr⟩ | ⟨hhdr, hm, hl, hr⟩ := referenceDecode_cases v b
  case inr.inr.inr =>
    obtain ⟨rfl, rfl, rfl⟩ : byteAt b 2 = seq ∧ carriedChan v (byteAt b 3) = c ∧ b.drop (Config.hdrLen v) = p := by
      simpa using hr.symm.trans h
    have hlen : (b.drop (Config.hdrLen v)).length = (byteAt b (Config.hdrLen v - 1)).toNat := by
      rw [List.length_drop, hl, toldLength, Nat.add_sub_cancel_left]
    have hfield : lengthField (b.drop (Config.hdrLen v)).length = byteAt b (Config.hdrLen v - 1) := by
      rw [hlen, lengthField, BitVec.ofNat_toNat, BitVec.setWidth_eq]
    have hle : (b.drop (Config.hdrLen v)).length ≤ 255 := hlen.trans_le (Nat.le_of_lt_succ (BitVec.isLt _))
    exact ⟨byteAt b 3, by rw [encodeFrame_of_le hle, hfield, header_append_drop hhdr hm], rfl⟩
  all_goals cases hr.symm.trans h

end

/-- Settles O36: the decode of the one frame gives both inputs back; a byte after the sequence id is payload in variant A
and channel in variant B. -/
theorem referenceDecodeRecoversTheInputs : Obligations.ReferenceDecodeRecoversTheInputs := by
  refine ⟨?roundTrip, ?injective, ?acrossVariants⟩
  case roundTrip =>
    intro v seq chan p hp
    have h := encodeFrame_of_le hp v seq chan
    exact ⟨_, h, referenceDecode_of_encodeFrame h⟩
  case injective =>
    intro v seq chan seq' chan' p p' f h h'
    have heq := (referenceDecode_of_encodeFrame h).symm.trans (referenceDecode_of_encodeFrame h')
    obtain ⟨hseq, hchan, hp⟩ : seq = seq' ∧ carriedChan v chan = carriedChan v chan' ∧ p = p' := by simpa using heq
    refine ⟨hseq, hp, ?_⟩
    rintro rfl
    exact Option.some.inj hchan
  case acrossVariants => exact ⟨0x01, 0x01, 0x02, [0x01, 0x03], [0x03], [0xEF, 0xBE, 0x01, 0x02, 0x01, 0x03], rfl, rfl⟩

/-- Settles O37: acceptance is the round trip and its converse, and each error has its reason. -/
theorem referenceDecodeAcceptsExactlyTheFrames : Obligations.ReferenceDecodeAcceptsExactlyTheFrames := by
  intro v b
  constructor
  · intro seq c p
    constructor
    · exact encodeFrame_of_referenceDecode
    · rintro ⟨chan, h, rfl⟩
      exact referenceDecode_of_encodeFrame h
  · obtain ⟨hshort, hmagic, hlength⟩ := referenceDecode_eq_error_iff v b
    rw [BeginsWithMagic, and_assoc] at hlength
    exact ⟨hshort, hmagic, hlength⟩

/-! ### The outputs of ENC.A, ENC.B and GUARD (R81 to R83) -/

/-- The encoder's outputs: the frame and its length, or the refusal (R81 to R83). -/
theorem encoderOuts_eq (v : Variant) (seq chan : Byte) (p : List Byte) (o : Outs) :
    encoderOuts v seq chan p o = { o with
      tooLarge := decide (255 < p.length)
      frame := if 255 < p.length then [] else headerBytes v seq chan (lengthField p.length) ++ p
      flen := if 255 < p.length then 0 else BitVec.ofNat 9 (Config.hdrLen v + p.length) } := by
  by_cases h : 255 < p.length
  · rw [encoderOuts, frameOut_of_gt h, if_pos h, if_pos h]
    rfl
  · rw [encoderOuts, frameOut_of_le (not_lt.1 h), if_neg h, if_neg h, List.length_append, headerBytes_length]
    rfl

/-- Settles O31: ENC.A shows the encoder's outputs, with the header of variant A. -/
theorem encoderBuildsFramesOfVariantA : Obligations.EncoderBuildsFramesOfVariantA := by
  intro seq chan p s
  rw [exec_of_completes (i := .encA seq chan p) trivial, effect, encoderOuts_eq]
  rfl

/-- Settles O32: ENC.B shows the encoder's outputs, with the header of variant B. -/
theorem encoderBuildsFramesOfVariantB : Obligations.EncoderBuildsFramesOfVariantB := by
  intro seq chan p s
  rw [exec_of_completes (i := .encB seq chan p) trivial, effect, encoderOuts_eq]
  rfl

/-- The guard's outputs, by the length (R81). -/
theorem guardOuts_eq (n : Len9) (o : Outs) :
    guardOuts n o =
      if 255 < n.toNat then { o with tooLarge := true, frame := [], flen := 0 } else { o with tooLarge := false } := by
  simp only [guardOuts, tooLarge_iff]

/-- Settles O33: GUARD shows `too_large` of the length, and on a refusal the empty frame. -/
theorem guardRefusesLengthsAbove255 : Obligations.GuardRefusesLengthsAbove255 := by
  intro v n s
  rw [exec_of_completes (i := .guard v n) trivial, effect, guardOuts_eq]
  rfl

end Sys2Proof.Machine

/-! SUPPORT. The sequence id over operations and runs (R91 to R94), the matcher's and the timer's strobes (R95 to R98), and
the budget of a silent round (R99, R100). -/

namespace Sys2Proof.Machine

/-! ### The strobes, each invoked alone (R91 to R99) -/

/-- Settles O39: SEQ.CLR and TMR.CLR complete, and their effects are `clearSeq` and `clearTimer`. -/
theorem clearStrobesWriteZero : Obligations.ClearStrobesWriteZero := fun _ =>
  ⟨exec_of_completes (i := .seqClr) trivial, exec_of_completes (i := .tmrClr) trivial⟩

/-- Settles O40: SEQ.INC completes, and its effect is `incSeq`. -/
theorem seqIncWritesOneMore : Obligations.SeqIncWritesOneMore := fun _ =>
  exec_of_completes (i := .seqInc) trivial

/-- Settles O41: ACK.CMP completes, and its effect shows `ack_match`, the comparison with `SEQ`. -/
theorem ackCmpComparesWithSeq : Obligations.AckCmpComparesWithSeq := fun b _ =>
  exec_of_completes (i := .ackCmp b) trivial

/-- Settles O42: TMR.TICK completes, and its effect is `tickTimer` and shows `expired`. -/
theorem tmrTickCountsAndCompares : Obligations.TmrTickCountsAndCompares := fun _ =>
  exec_of_completes (i := .tmrTick) trivial

/-! ### The sequence id (R92 to R94) -/

/-- The increment is modulo 256 (R92). -/
theorem toNat_seqNext (seq : Byte) : (seqNext seq).toNat = (seq.toNat + 1) % 256 :=
  BitVec.toNat_add seq 1

/-- Settles O13: each of the three operations, where it completes, leaves `seqNext` of `SEQ`. -/
theorem sequenceIdCountsModulo256 : Obligations.SequenceIdCountsModulo256 := by
  intro s t
  have hcounts : ∀ i, (effect s i).seq = seqNext s.seq → exec i s = .next t → t.seq.toNat = (s.seq.toNat + 1) % 256 := by
    intro i hi h
    obtain ⟨-, rfl⟩ := exec_eq_next_iff.1 h
    rw [hi, toNat_seqNext]
  exact ⟨hcounts .send rfl, hcounts .sendTooLarge rfl, hcounts .seqInc rfl⟩

/-- Outside Idle no operation the hardware performs but RESET and SEND writes `SEQ`, and SEND adds 1 (R92, R93). -/
theorem EnvStep.seq {u t : State} {i : Option Instr} (h : EnvStep u i t) (hp : u.phase ≠ .idle) (hi : i ≠ some .reset) :
    t.seq = u.seq + BitVec.ofNat 8 (i.toList.countP isSend) := by
  cases h with
  | reset => exact absurd rfl hi
  | start v c x hidle => exact absurd hidle hp
  | send p hsending hpl => rfl
  | _ => exact (BitVec.add_zero _).symm

/-- Since `SEQ` was `n`, the operations `l` of a session led to `s`: `SEQ` has moved by the SENDs among them (R93). -/
structure CountedSince (n : Byte) (s : State) (l : List Instr) : Prop where
  session : InSession s
  seq : s.seq = n + BitVec.ofNat 8 (l.countP isSend)

/-- A step of a session keeps the count of `SEQ`. -/
theorem CountedSince.step {n : Byte} {u t : State} {l : List Instr} (hu : CountedSince n u l) (h : step u = .next t) :
    CountedSince n t (l ++ (nextOp u).toList) := by
  obtain ⟨hsession, hseq⟩ := hu
  have hmoved : t.seq = u.seq + BitVec.ofNat 8 ((nextOp u).toList.countP isSend) :=
    (envStep_of_step hsession.env h).seq hsession.active hsession.nextOp_ne_reset
  refine ⟨hsession.step h, ?_⟩
  rw [hmoved, hseq, List.countP_append, BitVec.ofNat_add, BitVec.add_assoc]

/-- Settles O52, by induction on the run: every step keeps `CountedSince`. -/
theorem seqIsTheNumberOfSendsModulo256 : Obligations.SeqIsTheNumberOfSendsModulo256 := by
  intro k s t he hn hp hrun
  have h0 : CountedSince s.seq s [] := ⟨⟨he, hn, hp⟩, (BitVec.add_zero _).symm⟩
  obtain ⟨-, hseq⟩ := run_induction (fun _ _ _ hu => hu.step) h0 hrun
  rw [hseq, BitVec.toNat_add, BitVec.toNat_ofNat, Nat.add_mod_mod]

/-! ### The budget of a round (R99, R100) -/

section
variable {s : State} {l : List Input}

/-- Within the budget, the empty poll that expires is the one that reaches it exactly (R99, R100). -/
theorem expired_iff_elapsedNext_eq_budget {e t : Ticks} (he : e < budget t) :
    expired e t = true ↔ elapsedNext e = budget t := by
  refine ⟨elapsedNext_eq_budget he, fun h => ?_⟩
  by_contra hx
  have hlt : elapsedNext e < budget t := elapsedNext_lt_budget (eq_false_of_ne_true hx)
  rw [h] at hlt
  exact BitVec.lt_irrefl _ hlt

/-- In AwaitingAck a tick with nothing in RX is an empty poll (R47). -/
theorem select_tick_of_silence (hp : s.phase = .awaitingAck) (hrx : s.rx = []) : select .tick s = pollNone s := by
  rw [select, selectTick, hp, hrx]
  rfl

/-- An empty poll that does not reach the budget selects POLL.EMPTY (R116). -/
theorem select_tick_within_budget (hp : s.phase = .awaitingAck) (hrx : s.rx = []) (he : s.elapsed < budget s.tmo)
    (hx : elapsedNext s.elapsed ≠ budget s.tmo) : select .tick s = .op .pollEmpty := by
  rw [select_tick_of_silence hp hrx, pollNone, if_neg (mt (expired_iff_elapsedNext_eq_budget he).1 hx)]

/-- The empty poll that reaches the budget selects POLL.TIMEOUT (R117). -/
theorem select_tick_at_budget (hp : s.phase = .awaitingAck) (hrx : s.rx = []) (he : s.elapsed < budget s.tmo)
    (hx : elapsedNext s.elapsed = budget s.tmo) : select .tick s = .op .pollTimeout := by
  rw [select_tick_of_silence hp hrx, pollNone, if_pos ((expired_iff_elapsedNext_eq_budget he).2 hx)]

/-- The selection reads `TMO` through `expired` only (R23, R70). -/
theorem select_of_same_expired {t : Ticks} (h : expired s.elapsed t = expired s.elapsed s.tmo) (e : Event) :
    select e { s with tmo := t } = select e s := by
  cases e with
  | tick =>
    have hnone : pollNone { s with tmo := t } = pollNone s := by simp only [pollNone, h]
    simp only [select, selectTick, hnone]
    rfl
  | _ => rfl

/-- The empty poll that reaches the budget takes the timeout (R117, R132). -/
theorem step_tick_at_budget (hp : s.phase = .awaitingAck) (hrx : s.rx = []) (he : s.elapsed < budget s.tmo)
    (hx : elapsedNext s.elapsed = budget s.tmo) (hl : s.inputs = .event .tick :: l) :
    step s = .next { s with inputs := l, elapsed := budget s.tmo, errKind := .rxTimeout, errElapsed := budget s.tmo,
                            phase := .failed } := by
  rw [step_event hl (select_tick_at_budget hp hrx he hx) trivial, ← hx]
  rfl

/-- The state after `k` empty polls of a round that goes on: `k` more in `ELAPSED` (R98, R116). -/
def State.afterEmptyPolls (s : State) (k : Nat) (l : List Input) : State :=
  { s with inputs := l, elapsed := s.elapsed + BitVec.ofNat 32 k }

@[simp] theorem State.afterEmptyPolls_elapsed (k : Nat) :
    (s.afterEmptyPolls k l).elapsed = s.elapsed + BitVec.ofNat 32 k := rfl

/-- An empty poll that does not reach the budget adds 1 to `ELAPSED`, and the round goes on (R116). -/
theorem step_tick_within_budget (hp : s.phase = .awaitingAck) (hrx : s.rx = [])
    (he : s.elapsed.toNat + 1 < (budget s.tmo).toNat) (hl : s.inputs = .event .tick :: l) :
    step s = .next (s.afterEmptyPolls 1 l) := by
  have hlt : s.elapsed < budget s.tmo := BitVec.lt_def.2 (by omega)
  have hspare : elapsedNext s.elapsed ≠ budget s.tmo := fun h => by
    rw [← h, elapsedNext, BitVec.toNat_add] at he
    exact absurd he (Nat.mod_le _ _).not_gt
  rw [step_event hl (select_tick_within_budget hp hrx hlt hspare) trivial]
  cases s
  cases hp
  rfl

/-- Empty polls add up. -/
theorem State.afterEmptyPolls_afterEmptyPolls (j k : Nat) (l' : List Input) :
    (s.afterEmptyPolls j l').afterEmptyPolls k l = s.afterEmptyPolls (j + k) l := by
  simp only [State.afterEmptyPolls, BitVec.ofNat_add, BitVec.add_assoc]

/-- Within the budget the timer does not wrap (R94). -/
theorem State.afterEmptyPolls_elapsed_toNat {k : Nat} (hk : s.elapsed.toNat + k < (budget s.tmo).toNat) :
    (s.afterEmptyPolls k l).elapsed.toNat = s.elapsed.toNat + k := by
  have hlt := (budget s.tmo).isLt
  rw [State.afterEmptyPolls_elapsed, BitVec.toNat_add, BitVec.toNat_ofNat, Nat.add_mod_mod, Nat.mod_eq_of_lt (by omega)]

/-- While the budget lasts, a round in which no byte arrives only counts its empty polls (R99, R116). -/
theorem run_emptyPolls {k : Nat} (hp : s.phase = .awaitingAck) (hrx : s.rx = [])
    (hk : s.elapsed.toNat + k < (budget s.tmo).toNat) (hl : s.inputs = ticks k ++ l) :
    Host.Core.run core k s = .next (s.afterEmptyPolls k l) := by
  induction k generalizing s with
  | zero =>
    have hs : s.afterEmptyPolls 0 l = s := by
      cases s
      cases hl
      simp [State.afterEmptyPolls]
    rw [hs]
    rfl
  | succ k ih =>
    have hstep : step s = .next (s.afterEmptyPolls 1 (ticks k ++ l)) :=
      step_tick_within_budget hp hrx (by omega) hl
    have hleft : (s.afterEmptyPolls 1 (ticks k ++ l)).elapsed.toNat + k < (budget s.tmo).toNat := by
      rw [State.afterEmptyPolls_elapsed_toNat (by omega)]
      omega
    rw [run_of_next hstep, ih (s := s.afterEmptyPolls 1 (ticks k ++ l)) hp hrx hleft rfl,
      State.afterEmptyPolls_afterEmptyPolls, Nat.add_comm]

end

/-- Settles O18: under the invariant `ELAPSED` is 0 there, and the first empty poll expires with either budget. -/
theorem zeroBudgetBehavesAsOne : Obligations.ZeroBudgetBehavesAsOne := by
  intro s hinv hp htmo
  have helapsed : s.elapsed = 0 := by
    have hlt := hinv.awaiting hp
    rw [htmo] at hlt
    exact (BitVec.lt_one_iff (by decide)).1 hlt
  have hexp : expired s.elapsed 1 = expired s.elapsed s.tmo := by
    rw [htmo, helapsed]
    rfl
  refine ⟨fun e => (select_of_same_expired hexp e).symm, fun hrx => ?_⟩
  exact select_tick_at_budget hp hrx (hinv.awaiting hp) (by rw [htmo, helapsed]; rfl)

/-- Settles O20: the empty polls below the budget are counted by `run_emptyPolls`, and the one behind them reaches it. -/
theorem silentRoundTimesOutAfterExactlyItsBudget : Obligations.SilentRoundTimesOutAfterExactlyItsBudget := by
  intro s l hp helapsed hrx hl
  have hzero : s.elapsed.toNat = 0 := by rw [helapsed]; rfl
  have hcount : ∀ k, s.elapsed + BitVec.ofNat 32 k = BitVec.ofNat 32 k := fun k => by
    rw [helapsed]
    exact BitVec.zero_add _
  have hpolls : ∀ k < (budget s.tmo).toNat, ∀ l', s.inputs = ticks k ++ l' →
      Host.Core.run core k s = .next (s.afterEmptyPolls k l') := fun k hk l' =>
    run_emptyPolls hp hrx (by omega)
  refine ⟨?timeout, fun k hk => ?below⟩
  case timeout =>
    obtain ⟨n, hn⟩ : ∃ n, (budget s.tmo).toNat = n + 1 :=
      Nat.exists_eq_succ_of_ne_zero (BitVec.lt_def.1 (zero_lt_budget s.tmo)).ne'
    rw [hn, ticks, List.replicate_succ', List.append_assoc] at hl
    rw [hn]
    have hbelow : (s.afterEmptyPolls n (.event .tick :: l)).elapsed < budget s.tmo := by
      rw [BitVec.lt_def, State.afterEmptyPolls_elapsed_toNat (by omega)]
      omega
    have hreach : elapsedNext (s.afterEmptyPolls n (.event .tick :: l)).elapsed = budget s.tmo := by
      have hbudget : BitVec.ofNat 32 (budget s.tmo).toNat = budget s.tmo := by rw [BitVec.ofNat_toNat, BitVec.setWidth_eq]
      rw [elapsedNext, State.afterEmptyPolls_elapsed, hcount, ← hbudget, hn, BitVec.ofNat_add]
      rfl
    exact run_add (hpolls n (by omega) _ hl) (run_of_next (step_tick_at_budget hp hrx hbelow hreach rfl))
  case below =>
    refine ⟨_, hpolls k hk (ticks ((budget s.tmo).toNat - k) ++ l) ?_, hp, hcount k⟩
    rw [hl, ← List.append_assoc, ticks, ticks, ticks, List.replicate_append_replicate, Nat.add_sub_cancel' hk.le]

end Sys2Proof.Machine

/-! SUPPORT. The transfer state machine: what each event selects in each `STATE` (R70, R119, R120), the step on an event,
the table of R121, and what a whole session sends (R123). -/

namespace Sys2Proof.Machine

/-! ### What an event selects (R70) -/

section
variable {s : State} {b : Byte} {c : List Byte}

/-- A chunk can be presented where it is requested, and has at most 32 bytes (R120). -/
theorem presentable_chunk_iff : presentable (.chunk c) s = true ↔ s.phase = .reading ∧ c.length ≤ 32 := by
  rw [presentable, Bool.and_eq_true, State.srcReq_iff, decide_eq_true_iff]
  rfl

/-- `send` can be presented in Sending (R120). -/
theorem presentable_send_iff : presentable .send s = true ↔ s.phase = .sending := State.txValid_iff

/-- A byte that a poll can return: the head of RX, or, with RX empty, one that arrived and was taken at once (R47; log 15). -/
def Pollable (b : Byte) (s : State) : Prop := s.rx = [] ∨ s.rx.head? = some b

/-- A byte can be presented where it is polled for and the poll can return it (R120, R47). -/
theorem presentable_ack_iff : presentable (.ack b) s = true ↔ s.phase = .awaitingAck ∧ Pollable b s := by
  simp [presentable, Pollable]

/-- In Reading a response of at most 32 bytes is READ.EOF's or READ.CHUNK's (R108, R109). -/
theorem select_chunk_reading (hp : s.phase = .reading) (hc : c.length ≤ 32) :
    select (.chunk c) s = if eof c then .op .readEof else .op (.readChunk c) := by
  simp [select, selectChunk, hp, Config.chunkMax, hc]

/-- In Reading a response of more than 32 bytes is refused (R120). -/
theorem select_chunk_too_long (hp : s.phase = .reading) (hc : 32 < c.length) :
    select (.chunk c) s = .refuse .chunkTooLong := by
  simp [select, selectChunk, hp, Config.chunkMax, hc]

/-- Outside Reading no chunk is requested (R120). -/
theorem select_chunk_of_not_reading (hp : s.phase ≠ .reading) : select (.chunk c) s = .refuse .chunkNotRequested := by
  rw [select, selectChunk]
  split
  case h_2 h => exact absurd h hp
  all_goals rfl

/-- Outside Sending the block sends nothing (R120). -/
theorem select_send_of_not_sending (hp : s.phase ≠ .sending) : select .send s = .refuse .sendNotReady := by
  rw [select, selectSend]
  split
  case h_3 h => exact absurd h hp
  all_goals rfl

/-- In AwaitingAck a byte that a poll can return is compared with `SEQ` (R70, R95). -/
theorem select_ack_of_pollable (hp : s.phase = .awaitingAck) (hb : Pollable b s) : select (.ack b) s = pollByte b s := by
  rw [select, selectAck, hp]
  rcases hq : s.rx with _ | ⟨x, q⟩
  · rfl
  · have hx : x = b := by simpa [Pollable, hq] using hb
    exact if_pos hx

/-- In AwaitingAck another byte than the head of RX is refused (R47; log 15). -/
theorem select_ack_not_pollable (hp : s.phase = .awaitingAck) (hb : ¬ Pollable b s) :
    select (.ack b) s = .refuse .ackNotHead := by
  rw [select, selectAck, hp]
  rcases hq : s.rx with _ | ⟨x, q⟩
  · exact absurd (.inl hq) hb
  · have hx : x ≠ b := by simpa [Pollable, hq] using hb
    exact if_neg hx

/-- Outside AwaitingAck no byte is polled for (R120). -/
theorem select_ack_of_not_awaiting (hp : s.phase ≠ .awaitingAck) : select (.ack b) s = .refuse .ackNotPolled := by
  rw [select, selectAck]
  split
  case h_4 h => exact absurd h hp
  all_goals rfl

/-- In AwaitingAck a tick finds the byte that waits (R138; log 14). -/
theorem select_tick_of_waiting {q : List Byte} (hp : s.phase = .awaitingAck) (hq : s.rx = b :: q) :
    select .tick s = pollByte b s := by
  rw [select, selectTick, hp, hq]
  rfl

/-- With nothing presented the block takes its own `send` in Sending (R105; log 2). -/
theorem selectNothing_sending (hp : s.phase = .sending) : selectNothing s = select .send s := by
  rw [selectNothing, hp]
  rfl

/-- With nothing presented the block waits outside Sending (R105; log 2). -/
theorem selectNothing_of_not_sending (hp : s.phase ≠ .sending) : selectNothing s = .ignored := by
  rw [selectNothing]
  split
  case h_3 h => exact absurd h hp
  all_goals rfl

/-! ### Selections that refuse -/

/-- Whether a selection has no step. -/
def Selection.refuses : Selection → Bool
  | .refuse _ => true
  | _ => false

/-- A poll that returned a byte is stepped on. -/
@[simp] theorem pollByte_refuses : (pollByte b s).refuses = false := by
  unfold pollByte
  split <;> rfl

/-- A poll that returned none is stepped on. -/
@[simp] theorem pollNone_refuses : (pollNone s).refuses = false := by
  unfold pollNone
  split <;> rfl

/-- `start` is stepped on in every state. -/
theorem selectStart_refuses (v : Variant) (x : Byte) (t : Ticks) (s : State) : (selectStart v x t s).refuses = false := by
  unfold selectStart
  cases s.phase <;> rfl

/-- `tick` is stepped on in every state. -/
theorem selectTick_refuses (s : State) : (selectTick s).refuses = false := by
  unfold selectTick
  cases s.phase
  case awaitingAck =>
    cases (rxPoll s.rx).1
    · exact pollNone_refuses
    · exact pollByte_refuses
  all_goals rfl

/-- The selection refuses exactly the events that cannot be presented (R120). -/
theorem presentable_eq_not_refuses (e : Event) (s : State) : presentable e s = !(select e s).refuses := by
  cases e with
  | reset => rfl
  | start v x t => rw [select, selectStart_refuses]; rfl
  | tick => rw [select, selectTick_refuses]; rfl
  | chunk c =>
    rw [Bool.eq_iff_iff, presentable_chunk_iff]
    by_cases hp : s.phase = .reading
    · by_cases hc : c.length ≤ 32
      · rw [select_chunk_reading hp hc]
        split <;> simp [Selection.refuses, hp, hc]
      · rw [select_chunk_too_long hp (not_le.1 hc)]
        simp [Selection.refuses, hc]
    · rw [select_chunk_of_not_reading hp]
      simp [Selection.refuses, hp]
  | send =>
    rw [Bool.eq_iff_iff, presentable_send_iff]
    by_cases hp : s.phase = .sending
    · rw [select, selectSend_sending hp]
      simp [Selection.refuses, hp]
    · rw [select_send_of_not_sending hp]
      simp [Selection.refuses, hp]
  | ack b =>
    rw [Bool.eq_iff_iff, presentable_ack_iff]
    by_cases hp : s.phase = .awaitingAck
    · by_cases hb : Pollable b s
      · rw [select_ack_of_pollable hp hb]
        simp [hp, hb]
      · rw [select_ack_not_pollable hp hb]
        simp [Selection.refuses, hb]
    · rw [select_ack_of_not_awaiting hp]
      simp [Selection.refuses, hp]

end

/-! ### The step on an event -/

section
variable {s t : State} {e : Event} {l : List Input}

/-- A step on an ignored event only uses it up (R119). -/
theorem step_event_ignored (hl : s.inputs = .event e :: l) (hsel : select e s = .ignored) :
    step s = .next (s.withInputs l) := by
  rw [step_cons hl, selectInput, hsel]

/-- A step on an event that cannot be presented is refused (R120). -/
theorem step_event_refused {r : Refusal} (hl : s.inputs = .event e :: l) (hsel : select e s = .refuse r) :
    step s = .refused r := by
  rw [step_cons hl, selectInput, hsel]

/-- The state a selection leads to from `u`, where it has a step. -/
def Selection.result (u : State) : Selection → State
  | .op i => effect u i
  | _ => u

/-- A step on an event that answers: the event can be presented, and what it selects has its effect. -/
theorem eq_result_of_step_event (hl : s.inputs = .event e :: l) (h : step s = .next t) :
    presentable e s = true ∧ t = (select e s).result (s.withInputs l) := by
  rw [presentable_eq_not_refuses]
  rw [step_cons hl, selectInput] at h
  cases hsel : select e s with
  | op i =>
    rw [hsel] at h
    exact ⟨rfl, (exec_eq_next_iff.1 h).2⟩
  | ignored =>
    rw [hsel] at h
    cases h
    exact ⟨rfl, rfl⟩
  | refuse r =>
    rw [hsel] at h
    cases h

/-- The `STATE` behind a poll that returned a byte (R114, R115). -/
theorem pollByte_result_phase (b : Byte) (s u : State) :
    ((pollByte b s).result u).phase = if b = s.seq then .reading else .failed := by
  simp only [pollByte, ackMatch_iff]
  split <;> rfl

/-- The `STATE` behind a poll that returned none (R116, R117). -/
theorem pollNone_result_phase (s u : State) :
    ((pollNone s).result u).phase = if s.tmo ≤ s.elapsed + 1 then .failed else .awaitingAck := by
  simp only [pollNone, expired_iff]
  split <;> rfl

end

/-- Settles O23: the selection refuses what cannot be presented, and every operation an event selects completes. -/
theorem stepAnswersExactlyPresentableEvents : Obligations.StepAnswersExactlyPresentableEvents := by
  intro s e l hinv hl
  rw [presentable_eq_not_refuses]
  cases hsel : select e s with
  | op i =>
    have hc : Completes s i := completes_of_select (hinv.lenBound.trans hinv.bufLength.ge) hsel
    simp [step_event hl hsel hc, Selection.refuses]
  | ignored => simp [step_event_ignored hl hsel, Selection.refuses]
  | refuse r => simp [step_event_refused hl hsel, Selection.refuses]

/-- Settles O24, by the event: each row of the table is the result of what the event selects where it can be presented. -/
theorem transitionTable : Obligations.TransitionTable := by
  intro s t e l hl h
  obtain ⟨hpres, rfl⟩ := eq_result_of_step_event hl h
  cases e with
  | reset => rfl
  | start v c x =>
    rw [select, selectStart]
    cases hp : s.phase
    case idle => rfl
    all_goals exact hp
  | chunk c =>
    obtain ⟨hp, hc⟩ := presentable_chunk_iff.1 hpres
    rw [select_chunk_reading hp hc, hp]
    by_cases hz : c = []
    · rw [if_pos ((eof_iff c).2 hz), hz]
      rfl
    · rw [if_neg (mt (eof_iff c).1 hz)]
      exact (if_neg (mt List.length_eq_zero_iff.1 hz)).symm
  | send =>
    have hp := presentable_send_iff.1 hpres
    rw [select, selectSend_sending hp, hp]
    rfl
  | ack b =>
    obtain ⟨hp, hb⟩ := presentable_ack_iff.1 hpres
    rw [select_ack_of_pollable hp hb, pollByte_result_phase, hp]
  | tick =>
    by_cases hp : s.phase = .awaitingAck
    · rcases hq : s.rx with _ | ⟨b, q⟩
      · rw [select_tick_of_silence hp hq, pollNone_result_phase, hp]
      · rw [select_tick_of_waiting hp hq, pollByte_result_phase, hp]
    · rw [select, selectTick]
      cases hp' : s.phase
      case awaitingAck => exact absurd hp' hp
      all_goals exact hp'

/-- Settles O25: in a terminal state the hardware performs a HOLD, an arrival in RX or RESET; every other operation is
selected in another `STATE`. -/
theorem onlyResetLeavesATerminalState : Obligations.OnlyResetLeavesATerminalState := by
  intro s t he hp h hi
  have hstep := envStep_of_step he h
  generalize nextOp s = i at hstep hi
  cases hstep with
  | reset => exact absurd rfl hi
  | ignored => exact ⟨[], by simp [State.withInputs]⟩
  | holdDone _ => exact ⟨[], by simp [State.withInputs]⟩
  | holdFailed _ => exact ⟨[], by simp [State.withInputs]⟩
  | arrive b => exact ⟨[b], rfl⟩
  | _ => simp_all


/-! ### A session (R123) -/

section
variable {u t : State} {i : Option Instr}

/-- The chunk that is read and not yet sent: the payload in `CHUNK_BUF`, in Sending. -/
def State.pending (s : State) : List (List Byte) :=
  match s.phase with
  | .sending => s.chunkPayload.toList
  | _ => []

theorem State.pending_of_sending (hp : t.phase = .sending) : t.pending = t.chunkPayload.toList := by
  rw [State.pending, hp]

theorem State.pending_of_not_sending (hp : t.phase ≠ .sending) : t.pending = [] := by
  unfold State.pending
  split
  case h_1 h => exact absurd h hp
  case h_2 => rfl

/-- Two sequences of chunks sent one after the other: the ids go on counting (R93). -/
theorem wireImage_append (v : Variant) (ch : Byte) (cs ds : List (List Byte)) :
    ∀ n : Byte, wireImage v ch n (cs ++ ds) = wireImage v ch n cs ++ wireImage v ch (n + BitVec.ofNat 8 cs.length) ds := by
  induction cs with
  | nil => intro n; simp [wireImage]
  | cons c cs ih =>
    intro n
    have hn : seqNext n + BitVec.ofNat 8 cs.length = n + BitVec.ofNat 8 (cs.length + 1) := by
      rw [seqNext, BitVec.add_assoc, Nat.add_comm, BitVec.ofNat_add]
      rfl
    rw [List.cons_append, wireImage, ih, hn, wireImage, List.append_assoc, List.length_cons]

/-- An operation of a session moves chunks on: those pending and read are those `fs` that SEND puts on TX, framed, and those
that stay pending (R108, R110). -/
theorem EnvStep.frames (h : EnvStep u i t) (hi : i ≠ some .reset) (hbuf : u.chunkBuf.length = Config.chunkMax) :
    ∃ fs, u.pending ++ chunksRead i.toList = fs ++ t.pending ∧
      t.tx = u.tx ++ wireImage u.variant u.chan u.seq fs ∧ i.toList.countP isSend = fs.length := by
  cases h with
  | reset => exact absurd rfl hi
  | send p hp hpl =>
    refine ⟨[p], ?_, ?_, rfl⟩
    · rw [State.pending_of_sending hp, hpl, State.pending_of_not_sending (by simp)]
      rfl
    · simp [wireImage]
  | readChunk c hp h1 h2 =>
    refine ⟨[], ?_, ?_, rfl⟩
    · have hload : ((u.srcTaken c).loadChunk c).chunkPayload = some c :=
        loadChunk_chunkPayload h2 (h2.trans_eq hbuf.symm)
      rw [State.pending_of_not_sending (by simp [hp]), State.pending_of_sending rfl]
      exact congrArg Option.toList hload.symm
    · simp [wireImage]
  | arrive b => exact ⟨[], List.append_nil _, by simp [wireImage], rfl⟩
  | ignored => exact ⟨[], List.append_nil _, by simp [wireImage], rfl⟩
  | holdDone hp => exact ⟨[], List.append_nil _, by simp [wireImage], rfl⟩
  | holdFailed hp => exact ⟨[], List.append_nil _, by simp [wireImage], rfl⟩
  | _ =>
    refine ⟨[], ?_, by simp [wireImage], rfl⟩
    rw [State.pending_of_not_sending (by simp [*]), State.pending_of_not_sending (by simp)]
    rfl

/-- The chunks of two sequences of operations, one after the other. -/
theorem chunksRead_append (l m : List Instr) : chunksRead (l ++ m) = chunksRead l ++ chunksRead m :=
  List.filterMap_append

/-- The source moves by the chunks read (R43, R108). -/
theorem EnvStep.srcPos_eq (h : EnvStep u i t) : t.srcPos = u.srcPos + (chunksRead i.toList).flatten.length := by
  cases h with
  | readChunk c hp h1 h2 => simp [chunksRead, chunkOf]
  | _ => rfl

/-- Ends of input seen: one in Done. -/
def ended : Phase → Nat
  | .done => 1
  | _ => 0

/-- Only READ.EOF leads to Done, and nothing but RESET leads out of it (R109, R118). -/
theorem EnvStep.eofs_add_ended (h : EnvStep u i t) (hi : i ≠ some .reset) :
    i.toList.countP isEof + ended u.phase = ended t.phase := by
  cases h with
  | reset => exact absurd rfl hi
  | _ => simp [*, ended, isEof]

/-- The operations `l` of a session from `s`, in Reading with `SEQ` 0, led to `t`. -/
structure SessionSince (s t : State) (l : List Instr) : Prop where
  sent : SentSince t l
  counted : CountedSince 0 t l
  config : SameConfig s t
  source : t.srcPos = s.srcPos + (chunksRead l).flatten.length
  eofs : l.countP isEof = ended t.phase
  /-- The chunks read are those sent, in order, and the one that is pending, if any. -/
  frames : ∃ fs, chunksRead l = fs ++ t.pending ∧ t.tx = s.tx ++ wireImage s.variant s.chan 0 fs ∧
    l.countP isSend = fs.length

/-- What a session starts with (R106). -/
theorem SessionSince.start {s : State} (hinv : BlockInv s) (he : s.envOnly = true) (hn : s.noReset = true)
    (hp : s.phase = .reading) (hseq : s.seq = 0) : SessionSince s s [] where
  sent := ⟨⟨he, hn, by simp [hp]⟩, hinv, by simp [hp, unmatched]⟩
  counted := ⟨⟨he, hn, by simp [hp]⟩, hseq⟩
  config := ⟨rfl, rfl, rfl⟩
  source := rfl
  eofs := by simp [hp, ended]
  frames := ⟨[], by simp [chunksRead, State.pending_of_not_sending, hp], by simp [wireImage], rfl⟩

/-- A step of a session. -/
theorem SessionSince.step {s : State} {l : List Instr} (hu : SessionSince s u l) (h : step u = .next t) :
    SessionSince s t (l ++ (nextOp u).toList) := by
  obtain ⟨hsent, hcounted, ⟨hv, hc, hx⟩, hsource, heofs, fs, hread, htx, hsends⟩ := hu
  have hsession := hsent.session
  have hstep := envStep_of_step hsession.env h
  have hi := hsession.nextOp_ne_reset
  obtain ⟨hv', hc', hx'⟩ := hsession.step_keeps_config h
  refine ⟨hsent.step h, hcounted.step h, ⟨hv'.trans hv, hc'.trans hc, hx'.trans hx⟩, ?source, ?eofs, ?frames⟩
  case source =>
    rw [hstep.srcPos_eq, State.withInputs_srcPos, hsource, chunksRead_append, List.flatten_append, List.length_append,
      Nat.add_assoc]
  case eofs =>
    rw [List.countP_append, heofs, ← hstep.eofs_add_ended hi, State.withInputs_phase, Nat.add_comm]
  case frames =>
    obtain ⟨gs, hread', htx', hsends'⟩ := hstep.frames hi hsent.inv.bufLength
    have hpending : (u.withInputs u.inputs.tail).pending = u.pending := rfl
    have hid : u.seq = 0 + BitVec.ofNat 8 fs.length := by rw [← hsends]; exact hcounted.seq
    refine ⟨fs ++ gs, ?_, ?_, ?_⟩
    · rw [chunksRead_append, hread, List.append_assoc, List.append_assoc, ← hread', hpending]
    · rw [htx', State.withInputs_tx, State.withInputs_variant, State.withInputs_chan, State.withInputs_seq, htx, hv, hc,
        hid, List.append_assoc, wireImage_append]
    · rw [List.countP_append, hsends, hsends', List.length_append]

end

/-- Settles O55, by induction on the run: every step keeps `SessionSince`, and in Done and in Failed nothing is pending. -/
theorem sessionSendsEachChunkOnceInOrder : Obligations.SessionSendsEachChunkOnceInOrder := by
  intro k s t hinv he hn hp hseq hrun
  have ht : SessionSince s t (opTrace k s) :=
    run_induction (P := SessionSince s) (fun _ _ _ hu => hu.step) (.start hinv he hn hp hseq) hrun
  obtain ⟨hsent, -, -, hsource, heofs, fs, hread, htx, hsends⟩ := ht
  have hmatched := hsent.sends
  have hall : t.phase ≠ .sending → chunksRead (opTrace k s) = fs := fun h => by
    rw [hread, State.pending_of_not_sending h, List.append_nil]
  refine ⟨fun h => ?_, fun h => ?_, fun h => ?_⟩
  · rw [hall (by rcases h with h | h <;> simp [h])] at hsource ⊢
    exact ⟨htx, hsource, hsends⟩
  · rw [hall (by simp [h]), ← hsends, hmatched, heofs, h]
    exact ⟨rfl, rfl⟩
  · rw [hall (by simp [h]), ← hsends, hmatched, heofs, h]
    exact ⟨rfl, rfl⟩

/-! ### The operations, each with the event that selects it (R106 to R118) -/

section
variable {s : State} {b : Byte}

/-- A byte taken: the head leaves RX (R47). -/
theorem State.rxTake_eq (s : State) : s.rxTake = { s with rx := s.rx.tail, rxTaken := s.rxTaken + 1 } := by
  rw [State.rxTake, rxPoll_rest]

/-- A chunk of more than 32 bytes is no READ.CHUNK's (R108; log 19). -/
theorem execReadChunk_of_gt {c : List Byte} (h : 32 < c.length) (s : State) : execReadChunk c s = .refused .chunkTooLong := by
  have hne : eof c = false := by
    rw [← Bool.not_eq_true, eof_iff]
    rintro rfl
    cases h
  rw [execReadChunk, if_neg (by simp [hne]), if_pos (by simp [Config.chunkMax, h])]

/-- A frame of more than 255 payload bytes does not exist (R68). -/
theorem putFrame_of_gt {p : List Byte} (h : 255 < p.length) (v : Variant) (seq chan : Byte) (s : State) :
    putFrame v seq chan p s = .refused .frameTooLong := by
  rw [putFrame, encodeFrame_of_gt h]

/-- No event selects SEND.TOOLARGE: `CHUNK_LEN` has 6 bits (R5, R113). -/
theorem select_ne_sendTooLarge (e : Event) (s : State) : select e s ≠ .op .sendTooLarge := by
  intro h
  cases e with
  | send =>
    by_cases hp : s.phase = .sending
    · rw [select, selectSend_sending hp] at h
      cases h
    · rw [select_send_of_not_sending hp] at h
      cases h
  | _ =>
    simp only [select, selectStart, selectChunk, selectAck, selectTick, pollByte, pollNone] at h
    repeat' split at h
    all_goals cases h

/-- The frame of the payload in `CHUNK_BUF`, field by field: its length byte is `CHUNK_LEN` (R61, R62, R110). -/
theorem frameOut_chunk (h : s.chunkLen.toNat ≤ s.chunkBuf.length) (v : Variant) (seq chan : Byte) :
    frameOut v seq chan (s.chunkBuf.take s.chunkLen.toNat) =
      headerBytes v seq chan (s.chunkLen.setWidth 8) ++ s.chunkBuf.take s.chunkLen.toNat := by
  have hlen : (s.chunkBuf.take s.chunkLen.toNat).length = s.chunkLen.toNat := List.length_take_of_le h
  have hle : s.chunkLen.toNat ≤ 255 := by
    have := s.chunkLen.isLt
    omega
  rw [frameOut_of_le (hlen.trans_le hle), hlen, lengthField, BitVec.ofNat_toNat]

end

/-- Settles O4: START completes, and its effect is the sampling and `clearSeq`. -/
theorem startSamplesConfigurationAndClearsSeq : Obligations.StartSamplesConfigurationAndClearsSeq :=
  fun v c t s => ⟨fun hp => by rw [select, selectStart, hp], rfl⟩

/-- Settles O5: a response of 1 to 32 bytes is not the empty one, and READ.CHUNK of it completes. -/
theorem readChunkLoadsTheBuffer : Obligations.ReadChunkLoadsTheBuffer := by
  intro c s h1 h2
  refine ⟨fun hp => ?_, execReadChunk_of_wf h1 h2 s⟩
  rw [select_chunk_reading hp h2, if_neg (mt (eof_iff c).1 (List.length_pos_iff.1 h1))]

/-- Settles O6: READ.EOF completes, and its effect is `goto .done`. -/
theorem readEofEndsTheSessionInDone : Obligations.ReadEofEndsTheSessionInDone :=
  fun _ => ⟨select_chunk_nil_reading, rfl⟩

/-- Settles O7: each length guard answers with its own name. -/
theorem excludedLengthsAreRefused : Obligations.ExcludedLengthsAreRefused := fun s _ seq chan =>
  ⟨rfl, fun h => execReadChunk_of_gt h s, fun h hp => select_chunk_too_long hp h, fun h => putFrame_of_gt h .a seq 0 s,
    fun h => putFrame_of_gt h .b seq chan s⟩

/-- Settles O9: SEND completes, and its effect appends the frame of the payload in `CHUNK_BUF`, in either variant. -/
theorem sendWritesOneWholeFrame : Obligations.SendWritesOneWholeFrame := by
  intro s h
  refine ⟨selectSend_sending, ?_⟩
  rw [exec_of_completes (i := .send) h, effect, frameOut_chunk h]
  rcases s with ⟨phase, seq, _ | _⟩ <;> rfl

/-- Settles O11: SEND.TOOLARGE completes, and its effect raises the error after the increment. -/
theorem sendTooLargeRefusesAndIsNeverSelected : Obligations.SendTooLargeRefusesAndIsNeverSelected :=
  fun s => ⟨rfl, fun e => select_ne_sendTooLarge e s⟩

/-- Settles O14: a byte that can be polled and equals `SEQ` is POLL.MATCH's, which takes it. -/
theorem pollMatchContinuesTheLoop : Obligations.PollMatchContinuesTheLoop := by
  intro b s
  refine ⟨fun hp hrx hb => ?_, ?_⟩
  · rw [select_ack_of_pollable hp hrx, pollByte, if_pos ((ackMatch_iff b s.seq).2 hb)]
  · rw [exec_of_completes (i := .pollMatch b) trivial, effect, State.rxTake_eq]
    rfl

/-- Settles O15: a byte that can be polled and differs from `SEQ` is POLL.MISMATCH's, which takes and records it. -/
theorem pollMismatchRecordsExpectedAndActual : Obligations.PollMismatchRecordsExpectedAndActual := by
  intro b s
  refine ⟨fun hp hrx hb => ?_, ?_⟩
  · rw [select_ack_of_pollable hp hrx, pollByte, if_neg (mt (ackMatch_iff b s.seq).1 hb)]
  · rw [exec_of_completes (i := .pollMismatch b) trivial, effect, State.rxTake_eq]
    rfl

/-- Settles O16: an empty poll that does not expire is POLL.EMPTY's. -/
theorem pollEmptyCountsOneTick : Obligations.PollEmptyCountsOneTick := by
  intro s
  refine ⟨fun hp hrx hx => ?_, rfl⟩
  rw [select_tick_of_silence hp hrx, pollNone, if_neg (mt (expired_iff _ _).1 (BitVec.not_le.2 hx))]

/-- Settles O17: an empty poll that expires is POLL.TIMEOUT's. -/
theorem pollTimeoutRecordsElapsed : Obligations.PollTimeoutRecordsElapsed := by
  intro s
  refine ⟨fun hp hrx hx => ?_, rfl⟩
  rw [select_tick_of_silence hp hrx, pollNone, if_pos ((expired_iff _ _).2 hx)]

/-! ### HOLD, ignored events and the schedule (R105, R118, R119) -/

section
variable {s : State}

/-- A selection that leaves the state as it is: an ignored event, or a HOLD. -/
def Selection.ChangesNothing (x : Selection) : Prop := x = .ignored ∨ x = .op .holdDone ∨ x = .op .holdFailed

/-- Outside Idle `start` is ignored, or held in a terminal state (R118, R119). -/
theorem select_start_changesNothing (hp : s.phase ≠ .idle) (v : Variant) (c : Byte) (t : Ticks) :
    (select (.start v c t) s).ChangesNothing := by
  rw [select, selectStart]
  cases hq : s.phase
  case idle => exact absurd hq hp
  all_goals simp [Selection.ChangesNothing]

/-- Outside AwaitingAck `tick` is ignored, or held in a terminal state (R118, R119). -/
theorem select_tick_changesNothing (hp : s.phase ≠ .awaitingAck) : (select .tick s).ChangesNothing := by
  rw [select, selectTick]
  cases hq : s.phase
  case awaitingAck => exact absurd hq hp
  all_goals simp [Selection.ChangesNothing]

/-- A step on an event that selects nothing but a HOLD, or is ignored, only uses it up. -/
theorem step_event_changesNothing {e : Event} {l : List Input} (hl : s.inputs = .event e :: l) (h : (select e s).ChangesNothing) :
    step s = .next (s.withInputs l) := by
  rcases h with h | h | h
  · exact step_event_ignored hl h
  · exact step_event hl h trivial
  · exact step_event hl h trivial

end

/-- Settles O21: what each event selects in Done and in Failed; the HOLDs complete, and have no effect. -/
theorem terminalStatesHold : Obligations.TerminalStatesHold := by
  intro s v c t x b
  refine ⟨fun hp => ?done, fun hp => ?failed, fun hp => ?refused, rfl, rfl⟩
  case done => rw [select, select, selectStart, selectTick, hp]; exact ⟨rfl, rfl⟩
  case failed => rw [select, select, selectStart, selectTick, hp]; exact ⟨rfl, rfl⟩
  case refused =>
    have hne : s.phase ≠ .reading ∧ s.phase ≠ .sending ∧ s.phase ≠ .awaitingAck := by
      rcases hp with hp | hp <;> simp [hp]
    obtain ⟨hreading, hsending, hawaiting⟩ := hne
    exact ⟨select_chunk_of_not_reading hreading, select_send_of_not_sending hsending, select_ack_of_not_awaiting hawaiting⟩

/-- Settles O22: a stray `start` or `tick` is ignored, or held. -/
theorem strayStartAndTickChangeNothing : Obligations.StrayStartAndTickChangeNothing := fun _ v c t _ =>
  ⟨fun hp hl => step_event_changesNothing hl (select_start_changesNothing hp v c t),
    fun hp hl => step_event_changesNothing hl (select_tick_changesNothing hp)⟩

/-- Settles O47: the step on an event, on an arrival, and with nothing scheduled. -/
theorem stepRunsTheSelectedOperation : Obligations.StepRunsTheSelectedOperation := by
  intro s i e b l
  refine ⟨fun hl hsel => ?_, step_event_ignored, step_arrive, fun hl hp hsel => ?_, fun hl hp => ?_⟩
  · rw [step_cons hl, selectInput, hsel]
    rfl
  · rw [step_nil hl, selectNothing_sending hp, hsel]
  · rw [step_nil hl, selectNothing_of_not_sending hp]

end Sys2Proof.Machine

/-! ### Exceptions: the byte that waits, faults, reset and the error record (R135 to R140, R151) -/

namespace Sys2Proof.Machine

section
variable {s : State} {e : Event} {b : Byte} {l : List Input}

/-- A step on a poll event that returned a byte takes the byte: POLL.MATCH or POLL.MISMATCH (R114, R115). -/
theorem step_event_of_pollByte (hl : s.inputs = .event e :: l) (hsel : select e s = pollByte b s) :
    step s = .next (if b = s.seq then (s.withInputs l).rxTake.goto .reading
      else (s.withInputs l).rxTake.raise (.sequenceMismatch s.seq b)) := by
  by_cases hb : b = s.seq
  · rw [pollByte, if_pos ((ackMatch_iff b s.seq).2 hb)] at hsel
    rw [if_pos hb]
    exact step_event hl hsel trivial
  · rw [pollByte, if_neg (mt (ackMatch_iff b s.seq).1 hb)] at hsel
    rw [if_neg hb]
    exact step_event hl hsel trivial

/-- A step that finds an event that cannot be presented is refused (R120). -/
theorem step_of_fetch_refuse {r : Refusal} (h : (fetch s).1 = .refuse r) : step s = .refused r := by
  rw [step, ← Prod.eta (fetch s), h]

end

/-- Settles O19: `tick` finds the byte that waits, and `ack` of that byte can be polled; both select the poll that takes it. -/
theorem waitingByteIsTakenWhateverItIs : Obligations.WaitingByteIsTakenWhateverItIs := by
  intro s x q l hp hq hl
  obtain ⟨e, hl, hsel⟩ : ∃ e, s.inputs = .event e :: l ∧ select e s = pollByte x s := by
    rcases hl with hl | hl
    · exact ⟨.tick, hl, select_tick_of_waiting hp hq⟩
    · exact ⟨.ack x, hl, select_ack_of_pollable hp (.inr (by rw [hq, List.head?_cons]))⟩
  rw [step_event_of_pollByte hl hsel, State.rxTake_eq, State.withInputs_rx, hq]
  rfl

/-- Settles O51: an operation the hardware performs completes where `CHUNK_LEN` lies within the buffer, and an ignored or
refused input runs none. -/
theorem noHardwareStepFaults : Obligations.NoHardwareStepFaults := by
  intro s he hi f
  cases hsel : (fetch s).1 with
  | op i =>
    have hc : Completes (fetch s).2 i := by
      rw [fetch_state, completes_withInputs]
      exact completes_of_fetch_op he (hi.lenBound.trans hi.bufLength.ge) hsel
    rw [step_of_fetch_op hsel, exec_of_completes hc]
    nofun
  | ignored =>
    rw [step_of_fetch_ignored hsel]
    nofun
  | refuse r =>
    rw [step_of_fetch_refuse hsel]
    nofun

/-- Settles O3: `reset`, alone or with any event, selects RESET without reading the state. -/
theorem resetWinsOverEveryEvent : Obligations.ResetWinsOverEveryEvent := fun _ _ _ => ⟨step_cons, step_cons⟩

/-- Settles O27: outside Failed the whole error record is at its reset values, and an error writes its own part of it. -/
theorem raiseWritesTheRecordAndNothingElse : Obligations.RaiseWritesTheRecordAndNothingElse := by
  intro s x p q
  refine ⟨rfl, rfl, rfl, fun hi hp => ?_⟩
  obtain ⟨-, hexpected, hactual, helapsed⟩ := hi.noError hp
  exact ⟨hexpected, hactual, helapsed, hexpected, hactual, helapsed⟩

end Sys2Proof.Machine

/-! ### The operation RESET (R150) -/

namespace Sys2Proof.Machine

/-- Settles O1: RESET completes, and its effect is `resetBlock`, which fills `CHUNK_BUF` with 32 free bytes. -/
theorem resetGivesEveryRegisterItsResetValue : Obligations.ResetGivesEveryRegisterItsResetValue := fun s =>
  ⟨freeChunkBuf s.freeCount, s.freeCount + Config.chunkMax, freeChunkBuf_length s.freeCount,
    exec_of_completes (i := .reset) trivial⟩

end Sys2Proof.Machine
